-- ==== Sys2Proof/Word.lean ====
section
/-! DEFINITION. The words of the GW416: what the manual treats as bits. -/

namespace Sys2Proof

/-- One character of the link, and one byte of a frame, an image or a page (R153, R156, R3). -/
abbrev Byte := BitVec 8

/-- A filtered sample, a watch limit or a coefficient: 16 bits, two's complement (00_scope.md, Conventions). -/
abbrev Sample := BitVec 16

/-- A Timebase value: 48 bits of microseconds, wrapping (R103). -/
abbrev Time := BitVec 48

/-- A stream sample index: modulo 2^32 (R117, R118). -/
abbrev SampleIndex := BitVec 32

/-- A set of streams: stream k is a member when bit k is 1 (R197). -/
abbrev StreamMask := BitVec 16

end Sys2Proof
end

