-- ==== Sys2Proof/Syntax.lean ====
section
/-! DEFINITION. The commands of the GW416: one constructor for every row of spec/opcode_table.json. -/

namespace Sys2Proof

/-- The direction of an accepted edge on CONV_IN or TRIG_IN (R222). -/
inductive Edge where
  | rising
  | falling
  deriving DecidableEq, Repr

/-- The accepted level of a digital input (R222). -/
inductive Level where
  | low
  | high
  deriving DecidableEq, Repr

/-- What a rate strap pin holds while it is read; held at neither level it reads as 0 (R223). -/
inductive StrapLevel where
  | low
  | high
  | undriven
  deriving DecidableEq, Repr

/-- The pin levels that a reset samples when it ends (R153, R222). DESIGN CHOICE, log 8: they are an operand of the
commands in which a reset can end. -/
structure PinLevels where
  rate1 : StrapLevel
  rate0 : StrapLevel
  convIn : Level
  trigIn : Level
  deriving DecidableEq, Repr

/-- A character on RXD: good with its value, or a character error (stop bit sampled low), or one whose start bit fell while
RESET was low or before a power-on reset had ended (R153). -/
inductive RxCharacter where
  | good (value : Byte)
  | error
  | startedInReset
  deriving DecidableEq, Repr

/-- When a break is taken. `afterReply`: a request is in execution, and the break is taken between the queuing of its reply
and the offer of the notices it holds, which R188 allows; the command then stands for that request and the break (log 26). -/
inductive BreakMoment where
  | alone
  | afterReply
  deriving DecidableEq, Repr

/-- A break on RXD: the levels that a reset which follows it samples (log 8), and the moment at which it is taken. -/
structure LineBreak where
  pins : PinLevels
  moment : BreakMoment
  deriving DecidableEq, Repr

/-- The commands: each is one event of the part, taken whole (spec/95_what_each_step_holds.md). The requests carry no
operand of their own: their fields are the payload of the request that the Dispatcher has in execution (R184, log 11). -/
inductive Instr where
  | powerOnReset (pins : PinLevels)
  | pinReset
  | pinResetEnd (pins : PinLevels)
  | lineBreak (taken : LineBreak)
  | lineBreakEnd
  | rxCharacter (c : RxCharacter)
  | interCharacterTimeout
  | txCharacterBoundary (pins : PinLevels)
  | pacerExpiry
  | convInEdge (edge : Edge)
  /-- `level`: the voltage at the slot's input in microvolts (R92, R224). -/
  | conversionComplete (level : Nat)
  | decimationOutput (stream : Fin 16)
  | postCountReached (stream : Fin 16)
  | watchFire (watch : Fin 8)
  | watchHoldoffEnd (watch : Fin 8)
  | trigInEdge (edge : Edge)
  | externalHoldoffExpiry
  | trigOutPulseEnd
  /-- `position`: which of the triggers on their way is taken, from 0 (R84: in either order). -/
  | trigger (position : Nat)
  /-- `position`: which of the alarm requests on their way is taken, from 0. -/
  | alarmRequest (position : Nat)
  | acknowledgementTimerExpiry (alarmId : Byte)
  | identify
  | getStatus
  | readCounters
  | readCountersClear
  | setTime
  | restart
  | configureScan
  | configureStream
  | loadCoefficients
  | configureProfile
  | configureWatch
  | configureExternalTrigger
  | configureAcquisition
  | readConfiguration
  | startAcquisition
  | stopGraceful
  | stopImmediate
  | convertOnce
  | forceCapture
  | listRecords
  | readRecord
  | cancelReadout
  | releaseRecord
  | releaseAllSealed
  | acknowledgeAlarm
  | unknownRequest
  deriving DecidableEq, Repr

end Sys2Proof
end

