-- ==== Sys2Proof/Decode.lean ====
section
/-! DEFINITION. The command that a word spells: the rows of spec/opcode_table.json give no bits, so none does. -/

namespace Sys2Proof

/-- No row of spec/opcode_table.json gives bits (each row's "fields" is empty), so no word spells a command. -/
def decodeTableWord (_nbits _w : Nat) : Option Instr := none

end Sys2Proof
end

