-- ==== Sys2Proof/Machine/Types.lean ====
section
/-! DEFINITION. The data of the GW416's blocks: settings, pages, records, watches, alarms, frames. Plain data only. -/

namespace Sys2Proof.Machine

/-! ## Conversion Controller (chapter 5) -/

/-- A slot's polarity (R90, R93). -/
inductive Polarity where
  | normal
  | inverted
  deriving DecidableEq, Repr

/-- One slot of the scan list (R90). -/
structure Slot where
  input : Fin 8
  polarity : Polarity
  gain : Fin 4
  settle : Fin 4
  deriving DecidableEq, Repr

/-- The round state with, in IN_ROUND, the start time, the slot in conversion and the clock units left until its
conversion completes, negative when it is overdue (R94). -/
inductive RoundState where
  | noRound
  | inRound (start : Time) (slot : Fin 16) (remaining : Int)
  deriving DecidableEq, Repr

/-- The pacer: STOPPED, or RUNNING with its period and the time to its next expiry in clock units, negative when the
expiry is overdue (R94, R98). -/
inductive Pacer where
  | stopped
  | running (period : Nat) (remaining : Int)
  deriving DecidableEq, Repr

/-! ## Filter Bank (chapter 6) -/

/-- A stream's filter setting (R106). -/
inductive FilterChoice where
  | bypass
  | coefficients (set : Fin 4)
  deriving DecidableEq, Repr

/-- A stream's storage format (R3, R106). -/
inductive Format where
  | full
  | packed
  deriving DecidableEq, Repr

/-- The five settings of a stream (R106). -/
structure StreamSettings where
  enabled : Bool
  filter : FilterChoice
  decimation : Nat
  history : Nat
  format : Format
  deriving DecidableEq, Repr

/-- A coefficient set: its T is the number of coefficients, c0 first (R108). -/
structure CoefficientSet where
  shift : Nat
  coefficients : List Sample
  deriving DecidableEq, Repr

/-- A signed raw sample and the start time of its round, as handed to the Filter Bank (R93). -/
structure RawSample where
  value : Int
  start : Time
  deriving DecidableEq, Repr

/-- The working state of a stream's filter (R111). `due` is the raw sample that completed the decimation count, while
the output it makes is not yet taken (the model's own: log 14). -/
structure FilterState where
  delayLine : List Int
  count : Nat
  index : SampleIndex
  due : Option RawSample
  deriving DecidableEq, Repr

/-- A filtered sample as delivered (R117). -/
structure FilteredSample where
  stream : Fin 16
  value : Sample
  index : SampleIndex
  time : Time
  deriving DecidableEq, Repr

/-! ## Page Pool (chapter 1) -/

/-- A page of capture memory: which of the 192 it is, and the bytes stored in it, in position order (R1, R3). -/
structure Page where
  number : Nat
  content : List Byte
  deriving DecidableEq, Repr

/-- The page list of a ring or of a stream part: pages oldest first, the fill of the tail page, and in PACKED format
the pending block (R9, R13). -/
structure PageRun where
  pages : List Page
  fill : Nat
  pendingBlock : List Sample
  deriving DecidableEq, Repr

/-- A history ring (R9). -/
structure Ring where
  run : PageRun
  starved : Bool
  deriving DecidableEq, Repr

/-- Where a stream's filtered samples go (R7). -/
inductive Sink where
  | none
  | ring
  | capture (record : Nat)
  deriving DecidableEq, Repr

/-! ## Capture Manager (chapters 2 and 3) -/

/-- A capture profile (R22). -/
structure Profile where
  mask : StreamMask
  preCount : Nat
  postCount : Nat
  extend : Bool
  deriving DecidableEq, Repr

/-- The source of a trigger or an alarm (R24, R134). -/
inductive TriggerSource where
  | watch (w : Fin 8)
  | external
  | force
  deriving DecidableEq, Repr

/-- The firing sample that a watch trigger carries (R24). -/
structure TriggerSample where
  stream : Fin 16
  index : SampleIndex
  value : Sample
  deriving DecidableEq, Repr

/-- A trigger on its way to the Capture Manager (R24, R75, R86): `alarm` is the alarm flag in force at the firing (R76),
`earlierRun` says that the run in which it was sent has ended and another has started (R26). -/
structure Trigger where
  profile : Fin 4
  source : TriggerSource
  time : Time
  sample : Option TriggerSample
  alarm : Bool
  earlierRun : Bool
  deriving DecidableEq, Repr

/-- Why a trigger was lost (R24). -/
inductive LostReason where
  | overlap
  | full
  | stopped
  deriving DecidableEq, Repr

/-- The outcome of a trigger (R24). -/
inductive TriggerOutcome where
  | opened (record : Nat)
  | retriggered (record : Nat)
  | lost (reason : LostReason)
  deriving DecidableEq, Repr

/-- The state of a record (R46). -/
inductive RecordState where
  | opened
  | closed
  | reading
  deriving DecidableEq, Repr

/-- The flags of a record (R36). -/
structure RecordFlags where
  preShort : Bool
  isPartial : Bool
  extended : Bool
  retrigOverflow : Bool
  truncated : Bool
  stopped : Bool
  read : Bool
  deriving DecidableEq, Repr

/-- One entry of a record's retrigger list (R27). -/
structure Retrigger where
  source : TriggerSource
  time : Time
  extended : Bool
  deriving DecidableEq, Repr

/-- The portion of a record that belongs to one stream (R37). -/
structure StreamPart where
  stream : Fin 16
  format : Format
  input : Fin 8
  polarity : Polarity
  gain : Fin 4
  decimation : Nat
  starved : Bool
  leadTotal : Nat
  preCount : Nat
  postCount : Nat
  firstIndex : SampleIndex
  run : PageRun
  collecting : Bool
  remaining : Nat
  deriving DecidableEq, Repr

/-- A capture record (R35). -/
structure CaptureRecord where
  number : Nat
  profile : Fin 4
  state : RecordState
  flags : RecordFlags
  source : TriggerSource
  time : Time
  sample : Option TriggerSample
  closeTime : Option Time
  requestedPre : Nat
  requestedPost : Nat
  parts : List StreamPart
  retriggers : List Retrigger
  deriving DecidableEq, Repr

/-- The state of the bulk readout source (R61). -/
inductive ReadoutState where
  | idle
  | active
  | finishing
  deriving DecidableEq, Repr

/-- The bulk readout source (R61). -/
structure Readout where
  state : ReadoutState
  record : Nat
  tag : Byte
  length : Nat
  offset : Nat
  deriving DecidableEq, Repr

/-- Why a readout ended early (R66). -/
inductive ReadoutEnd where
  | cancelled
  | released
  | linkReset
  deriving DecidableEq, Repr

/-! ## Watch Unit (chapter 4) -/

/-- The kind of a watch (R71). -/
inductive WatchKind where
  | above
  | below
  | outside
  | step
  deriving DecidableEq, Repr

/-- A watch's definition (R70). -/
structure WatchDefinition where
  enabled : Bool
  stream : Fin 16
  kind : WatchKind
  low : Sample
  high : Sample
  hysteresis : Nat
  qualify : Nat
  holdoff : Nat
  profile : Option (Fin 4)
  alarm : Bool
  oneShot : Bool
  deriving DecidableEq, Repr

/-- The states of a watch (4.2). -/
inductive WatchState where
  | disarmed
  | armed
  | qualifying
  | holdoff
  | rearmWait
  deriving DecidableEq, Repr

/-- A watch: definition, state and working values (R70). `firing` is the sample on which it fires, while its WATCH_FIRE
is not yet taken (the model's own: log 1). -/
structure Watch where
  definition : WatchDefinition
  state : WatchState
  qualifyCount : Nat
  holdoffCount : Nat
  previous : Option Sample
  firing : Option FilteredSample
  deriving DecidableEq, Repr

/-- The external trigger's definition; its holdoff is in microseconds (R85). -/
structure ExternalDefinition where
  enabled : Bool
  edge : Edge
  profile : Option (Fin 4)
  alarm : Bool
  holdoff : Nat
  deriving DecidableEq, Repr

/-- The external trigger's state, with the clock units left of its holdoff timer (R85). -/
inductive ExternalState where
  | disarmed
  | armed
  | holdoff (remaining : Nat)
  deriving DecidableEq, Repr

/-- The external trigger (R85). -/
structure ExternalTrigger where
  definition : ExternalDefinition
  state : ExternalState
  deriving DecidableEq, Repr

/-! ## Acquisition Control (chapter 7) -/

/-- The acquisition state (R120). -/
inductive AcquisitionState where
  | idle
  | running
  | draining
  deriving DecidableEq, Repr

/-- How rounds are started (R121). -/
inductive RoundSource where
  | paced
  | external
  | host
  deriving DecidableEq, Repr

/-- What a trigger does when the record table is full (R30, R121). -/
inductive TableFullPolicy where
  | refuseNew
  | discardOldestRead
  deriving DecidableEq, Repr

/-- The acquisition settings; the period is in microseconds (R121). -/
structure AcquisitionSettings where
  source : RoundSource
  period : Nat
  policy : TableFullPolicy
  deriving DecidableEq, Repr

/-- Why acquisition reached IDLE (R131). -/
inductive IdleReason where
  | drained
  | stopped
  deriving DecidableEq, Repr

/-! ## Alarm Unit and Counter Bank (chapter 8) -/

/-- The state of an alarm entry, with the clock units left of its acknowledgement timer in WAITING (R134, R138). -/
inductive AlarmState where
  | pending
  | queued
  | waiting (remaining : Nat)
  deriving DecidableEq, Repr

/-- An alarm entry (R134). -/
structure AlarmEntry where
  id : Byte
  source : TriggerSource
  time : Time
  value : Option Sample
  record : Option Nat
  sendCount : Nat
  state : AlarmState
  deriving DecidableEq, Repr

/-- An alarm request on its way to the Alarm Unit (R76, R86). -/
structure AlarmRequest where
  source : TriggerSource
  time : Time
  value : Option Sample
  record : Option Nat
  deriving DecidableEq, Repr

/-- The sixteen fault counters, in id order (R148). -/
inductive CounterId where
  | roundOverrun
  | filterSaturation
  | historyLost
  | captureLostFull
  | captureLostOverlap
  | streamTruncated
  | rxCrc
  | rxFraming
  | rxTimeout
  | requestDiscarded
  | noticeDropped
  | alarmDropped
  | alarmUndelivered
  | recordDiscarded
  | linkResets
  | replyDiscarded
  deriving DecidableEq, Repr

/-- A counter's first-occurrence mark (R149). -/
inductive Mark where
  | clear
  | reported
  | unreported
  deriving DecidableEq, Repr

/-- A fault counter with its mark (R148, R149). -/
structure Counter where
  value : Nat
  mark : Mark
  deriving DecidableEq, Repr

/-- The cause a RESTARTED notice carries (R146). -/
inductive RestartCause where
  | power
  | pin
  | request
  | link
  deriving DecidableEq, Repr

/-- The notices of section 8.5 with their fields (R214). -/
inductive Notice where
  | restarted (cause : RestartCause)
  | captureDone (record : Nat) (flags : RecordFlags) (length : Nat)
  | fault (counter : CounterId) (time : Time)
  | acquisitionIdle (reason : IdleReason) (time : Time) (records : Nat)
  | readoutEnded (record : Nat) (reason : ReadoutEnd) (offset : Nat)
  | alarmLost (id : Byte) (source : TriggerSource) (time : Time) (record : Option Nat)
  | recordDiscarded (record : Nat)
  deriving DecidableEq, Repr

/-! ## The link (chapters 9 to 11) -/

/-- The receiver state (R158). -/
inductive ReceiverState where
  | hunt
  | inFrame
  | escapePending
  deriving DecidableEq, Repr

/-- The Link Receiver; the inter-character timer is in clock units (R158). -/
structure Receiver where
  state : ReceiverState
  content : List Byte
  expected : Option Nat
  timer : Option Nat
  breakMark : Bool
  deriving DecidableEq, Repr

/-- A request: an entry of the inbound queue (R165). -/
structure Request where
  type : Byte
  tag : Byte
  payload : List Byte
  deriving DecidableEq, Repr

/-- The three outbound classes (R170). -/
inductive FrameClass where
  | bulk
  | normal
  | urgent
  deriving DecidableEq, Repr

/-- Whose frame it is, and what its owner must know at its end (R170, R174). `dropCount` is the drop count that the
report carries (R136); `owned` is cleared when the report's entry is acknowledged during its transmission (R141). -/
inductive FrameKind where
  | reply
  | restartReply
  | notice
  | alarmReport (id : Byte) (dropCount : Nat) (owned : Bool)
  | chunk
  deriving DecidableEq, Repr

/-- An outbound frame's content, complete when it enters its queue or the buffer (R170). -/
structure Frame where
  kind : FrameKind
  type : Byte
  tag : Byte
  payload : List Byte
  deriving DecidableEq, Repr

/-- A frame in transmission and the characters of it that are still to be sent (R174). -/
structure Transmission where
  frame : Frame
  unsent : List Byte
  deriving DecidableEq, Repr

/-- The bulk frame buffer's chunk (R63, R172): the offset of its first data byte, whether it is the BULK_LAST, and
whether the readout that built it is still the one in the source (R64, R66). -/
structure BulkChunk where
  frame : Frame
  offset : Nat
  last : Bool
  ofReadout : Bool
  deriving DecidableEq, Repr

/-- The Transmit Unit (R170 to R182). `suspended` is the suspension stack, its TOP first; `line` is the character on
TXD, `lineTime` the clock units until its stop bit ends, and `tail` what an abort still has to send after it (R179). -/
structure TransmitUnit where
  rate : Fin 4
  urgent : List Frame
  normal : List Frame
  bulk : Option BulkChunk
  sending : Option Transmission
  suspended : List Transmission
  line : Option Byte
  lineTime : Nat
  tail : List Byte
  deriving DecidableEq, Repr

/-- The Dispatcher's state (R183). -/
inductive DispatcherState where
  | free
  | executing (request : Request)
  | restarting
  deriving DecidableEq, Repr

/-- The Dispatcher and the notices it holds while it carries out a request (R188): `none` when it holds none. `behind` is
the number of requests left waiting behind the one in execution, which Get Status reports (R165, R190; log 25); outside
EXECUTING it has no meaning and keeps its last value. -/
structure Dispatcher where
  state : DispatcherState
  behind : Nat
  held : Option (List Notice)
  deriving DecidableEq, Repr

/-- The status of a reply (R185). -/
inductive Status where
  | ok
  | badType
  | badLength
  | badParam
  | wrongState
  | setInUse
  | notConfigured
  | poolOvercommit
  | paceTooFast
  | noRecord
  | notSealed
  | readoutBusy
  | badOffset
  | noAlarm
  | roundBusy
  | noReadout
  deriving DecidableEq, Repr

/-! ## Clock, pins and reset -/

/-- The Timebase, and the clock units of the current microsecond that have passed (R103; log 5). -/
structure Clock where
  timebase : Time
  phase : Nat
  deriving DecidableEq, Repr

/-- The measurement pins: the accepted levels of CONV_IN and TRIG_IN (R222), and TRIG_OUT: `some` with the clock units
left of its pulse while it is high (R34, R223). -/
structure Pins where
  convIn : Level
  trigIn : Level
  trigOut : Option Nat
  deriving DecidableEq, Repr

/-- A reset that waits for its ABORT (R181). -/
inductive AwaitedReset where
  | pin
  | restart
  deriving DecidableEq, Repr

/-- Whether RESET is taken to be low, whether the blocks are held in reset, and the reset that waits for an ABORT to
end (R181, R221). -/
structure ResetState where
  pinLow : Bool
  held : Bool
  awaited : Option AwaitedReset
  deriving DecidableEq, Repr

end Sys2Proof.Machine
end

