-- ==== Sys2Proof/Machine/Bytes.lean ====
section
/-! DEFINITION. How the part codes fields as bytes (R212): least significant byte first, two's complement, times in 6
bytes, absent fields as 0. -/

namespace Sys2Proof.Machine

/-- The low byte of a number. -/
def byteOf (n : Nat) : Byte := BitVec.ofNat 8 n

/-- An unsigned quantity in a given number of bytes, least significant first (R212). -/
def lowFirst : Nat → Nat → List Byte
  | 0, _ => []
  | count + 1, value => byteOf value :: lowFirst count (value / 256)

/-- The number that bytes code, least significant first (R212). -/
def valueOf : List Byte → Nat
  | [] => 0
  | b :: rest => b.toNat + 256 * valueOf rest

/-- A Timebase value in 6 bytes (R212). -/
def timeBytes (t : Time) : List Byte := lowFirst 6 t.toNat

/-- A signed 16-bit quantity in 2 bytes (R212). -/
def sampleBytes (x : Sample) : List Byte := lowFirst 2 x.toNat

/-- An absent field is sent as 0 (R212). -/
def sampleBytesOrZero (x : Option Sample) : List Byte := sampleBytes (x.getD 0)

/-- A yes/no field: 00h or 01h. -/
def flagByte (b : Bool) : Byte := if b then 1 else 0

/-- The codes of a trigger, retrigger or alarm source (R212). -/
def sourceByte : TriggerSource → Byte
  | .watch w => byteOf w.val
  | .external => 0x08
  | .force => 0x09

/-- The codes of a format (R212). -/
def formatByte : Format → Byte
  | .full => 0x00
  | .packed => 0x01

/-- The codes of a record state (R212). -/
def recordStateByte : RecordState → Byte
  | .opened => 0x00
  | .closed => 0x01
  | .reading => 0x02

/-- The codes of a RESTARTED cause (R212). -/
def causeByte : RestartCause → Byte
  | .power => 0x00
  | .pin => 0x01
  | .request => 0x02
  | .link => 0x03

/-- The codes of an ACQUISITION_IDLE reason (R212). -/
def idleReasonByte : IdleReason → Byte
  | .drained => 0x00
  | .stopped => 0x01

/-- The codes of a READOUT_ENDED reason (R212). -/
def readoutEndByte : ReadoutEnd → Byte
  | .cancelled => 0x00
  | .released => 0x01
  | .linkReset => 0x02

/-- The codes of the acquisition state (R190). -/
def acquisitionByte : AcquisitionState → Byte
  | .idle => 0x00
  | .running => 0x01
  | .draining => 0x02

/-- The codes of a polarity (R194, R219). -/
def polarityByte : Polarity → Byte
  | .normal => 0x00
  | .inverted => 0x01

/-- The codes of an edge (R199). -/
def edgeByte : Edge → Byte
  | .rising => 0x00
  | .falling => 0x01

/-- The codes of a watch kind (R198). -/
def kindByte : WatchKind → Byte
  | .above => 0x00
  | .below => 0x01
  | .outside => 0x02
  | .step => 0x03

/-- The codes of a watch state (R201). -/
def watchStateByte : WatchState → Byte
  | .disarmed => 0x00
  | .armed => 0x01
  | .qualifying => 0x02
  | .holdoff => 0x03
  | .rearmWait => 0x04

/-- The codes of the external trigger's state (R201). -/
def externalStateByte : ExternalState → Byte
  | .disarmed => 0x00
  | .armed => 0x01
  | .holdoff _ => 0x02

/-- The codes of a round source (R200). -/
def roundSourceByte : RoundSource → Byte
  | .paced => 0x00
  | .external => 0x01
  | .host => 0x02

/-- The codes of a table-full policy (R200). -/
def policyByte : TableFullPolicy → Byte
  | .refuseNew => 0x00
  | .discardOldestRead => 0x01

/-- The codes of a profile that may be NONE (R198, R199). -/
def optionalProfileByte : Option (Fin 4) → Byte
  | some p => byteOf p.val
  | none => 0xFF

/-- The codes of a filter choice (R195). -/
def filterByte : FilterChoice → Byte
  | .coefficients set => byteOf set.val
  | .bypass => 0xFF

/-- The status byte of a reply (R185). -/
def statusByte : Status → Byte
  | .ok => 0x00
  | .badType => 0x01
  | .badLength => 0x02
  | .badParam => 0x03
  | .wrongState => 0x04
  | .setInUse => 0x05
  | .notConfigured => 0x06
  | .poolOvercommit => 0x07
  | .paceTooFast => 0x08
  | .noRecord => 0x09
  | .notSealed => 0x0A
  | .readoutBusy => 0x0B
  | .badOffset => 0x0C
  | .noAlarm => 0x0D
  | .roundBusy => 0x0E
  | .noReadout => 0x0F

end Sys2Proof.Machine
end

