-- ==== Sys2Proof/Machine/Flags.lean ====
section
/-! DEFINITION. Record flags and counter identities: how they are numbered and sent (R36, R148, R212). -/

namespace Sys2Proof.Machine

/-- No flag set. -/
def noFlags : RecordFlags :=
  { preShort := false, isPartial := false, extended := false, retrigOverflow := false, truncated := false,
    stopped := false, read := false }

/-- The record flags as one byte (R212): bit 0 PRE_SHORT to bit 6 READ, bit 7 is 0. -/
def flagsByte (f : RecordFlags) : Byte :=
  byteOf (f.preShort.toNat + 2 * f.isPartial.toNat + 4 * f.extended.toNat + 8 * f.retrigOverflow.toNat
    + 16 * f.truncated.toNat + 32 * f.stopped.toNat + 64 * f.read.toNat)

/-- The flags a record held when it closed: READ is set only later, and nothing else is (R36, R55). -/
def flagsAtClosing (f : RecordFlags) : RecordFlags := { f with read := false }

/-- A counter's id (R148). -/
def counterIndex : CounterId → Fin 16
  | .roundOverrun => 0
  | .filterSaturation => 1
  | .historyLost => 2
  | .captureLostFull => 3
  | .captureLostOverlap => 4
  | .streamTruncated => 5
  | .rxCrc => 6
  | .rxFraming => 7
  | .rxTimeout => 8
  | .requestDiscarded => 9
  | .noticeDropped => 10
  | .alarmDropped => 11
  | .alarmUndelivered => 12
  | .recordDiscarded => 13
  | .linkResets => 14
  | .replyDiscarded => 15

/-- One occurrence: a counter rises by 1 and stays at 65535 (R148). -/
def saturatingUp (n : Nat) : Nat := if n < 65535 then n + 1 else n

end Sys2Proof.Machine
end

