-- ==== Sys2Proof/Machine/Framing.lean ====
section
/-! DEFINITION. Characters, escaping, the CRC and the content of every frame (9.1, 9.2, chapter 12). -/

namespace Sys2Proof.Machine

/-- OPEN begins a frame (R154). -/
def charOpen : Byte := 0xE1
/-- SUSPEND (R154). -/
def charSuspend : Byte := 0xE2
/-- RESUME (R154). -/
def charResume : Byte := 0xE3
/-- ESCAPE (R154). -/
def charEscape : Byte := 0xE4
/-- ABORT (R154). -/
def charAbort : Byte := 0xE5

/-- The five reserved values E1h to E5h (R154). -/
def isReserved (b : Byte) : Bool := decide (0xE1 ≤ b.toNat ∧ b.toNat ≤ 0xE5)

/-- One content byte on the line: escaped when it lies in E1h to E5h (R155). -/
def escapeByte (b : Byte) : List Byte := if isReserved b then [charEscape, b ^^^ 0x20] else [b]

/-- One bit of the CRC computation: shift left, and XOR the polynomial when a 1 is shifted out (R157). -/
def crcBit (v : BitVec 16) : BitVec 16 := if v.msb then (v <<< 1) ^^^ 0x1021 else v <<< 1

/-- One byte of the CRC computation (R157). -/
def crcByte (v : BitVec 16) (b : Byte) : BitVec 16 :=
  crcBit (crcBit (crcBit (crcBit (crcBit (crcBit (crcBit (crcBit (v ^^^ (b.setWidth 16 <<< 8)))))))))

/-- The CRC of a run of bytes, from the initial value FFFFh (R157). -/
def crcOf (bytes : List Byte) : BitVec 16 := bytes.foldl crcByte 0xFFFF

/-- The bytes of a frame that its CRC covers: type, tag, length, payload (R156, R157). -/
def coveredBytes (type tag : Byte) (payload : List Byte) : List Byte :=
  type :: tag :: byteOf payload.length :: payload

/-- The content of a frame: what the CRC covers, then the CRC, low byte first (R156, R213). -/
def contentBytes (type tag : Byte) (payload : List Byte) : List Byte :=
  coveredBytes type tag payload ++ lowFirst 2 (crcOf (coveredBytes type tag payload)).toNat

/-- The characters of a frame on the line: OPEN, then the content with escapes (R155, R213). -/
def lineCharacters (type tag : Byte) (payload : List Byte) : List Byte :=
  charOpen :: (contentBytes type tag payload).flatMap escapeByte

/-- The characters of an outbound frame. -/
def frameCharacters (f : Frame) : List Byte := lineCharacters f.type f.tag f.payload

/-- The class of a frame (R170). -/
def frameClass (f : Frame) : FrameClass :=
  match f.kind with
  | .alarmReport _ _ _ => .urgent
  | .chunk => .bulk
  | .reply => .normal
  | .restartReply => .normal
  | .notice => .normal

/-- The rank of a class in preemption: URGENT above NORMAL above BULK (R170). -/
def classRank : FrameClass → Nat
  | .bulk => 0
  | .normal => 1
  | .urgent => 2

/-- A notice: a NORMAL frame with tag 0 (8.5). -/
def noticeOf (type : Byte) (payload : List Byte) : Frame :=
  { kind := .notice, type := type, tag := 0, payload := payload }

/-- The frame of each notice (R214). -/
def noticeFrame : Notice → Frame
  | .restarted cause => noticeOf 0x40 [causeByte cause]
  | .captureDone record flags length => noticeOf 0x41 (lowFirst 2 record ++ [flagsByte flags] ++ lowFirst 2 length)
  | .fault counter time => noticeOf 0x42 (byteOf (counterIndex counter).val :: timeBytes time)
  | .acquisitionIdle reason time records =>
      noticeOf 0x43 ([idleReasonByte reason] ++ timeBytes time ++ [byteOf records])
  | .readoutEnded record reason offset =>
      noticeOf 0x44 (lowFirst 2 record ++ [readoutEndByte reason] ++ lowFirst 2 offset)
  | .alarmLost id source time record =>
      noticeOf 0x45 ([id, sourceByte source] ++ timeBytes time ++ lowFirst 2 (record.getD 0))
  | .recordDiscarded record => noticeOf 0x46 (lowFirst 2 record)

/-- The type of the reply to a request: the request type plus 80h, and FFh for a type of 80h or above (R187). -/
def replyType (type : Byte) : Byte := if type.toNat < 0x80 then type + 0x80 else 0xFF

/-- The reply to a request: its payload begins with the status byte (R187). -/
def replyFrame (request : Request) (status : Status) (data : List Byte) : Frame :=
  { kind := .reply, type := replyType request.type, tag := request.tag, payload := statusByte status :: data }

/-- The presence byte of an alarm report (R215). -/
def presenceByte (e : AlarmEntry) : Byte := byteOf (e.value.isSome.toNat + 2 * e.record.isSome.toNat)

/-- The alarm report of an entry at a given drop count (R137, R215). -/
def alarmReportFrame (e : AlarmEntry) (drop : Nat) : Frame :=
  { kind := .alarmReport e.id drop true, type := 0x50, tag := 0,
    payload := [e.id, byteOf (e.sendCount + 1), sourceByte e.source, presenceByte e] ++ timeBytes e.time
      ++ sampleBytesOrZero e.value ++ lowFirst 2 (e.record.getD 0) ++ [byteOf drop] }

/-- A bulk chunk (R63, R216). -/
def chunkFrame (last : Bool) (tag : Byte) (record offset : Nat) (data : List Byte) : Frame :=
  { kind := .chunk, type := if last then 0x61 else 0x60, tag := tag,
    payload := lowFirst 2 record ++ lowFirst 2 offset ++ data }

end Sys2Proof.Machine
end

