-- ==== Sys2Proof/Machine/Limits.lean ====
section
/-! DEFINITION. The capacities and intervals of the GW416, and the clock unit. -/

namespace Sys2Proof.Machine

/-- Clock units in a microsecond: the smallest number for which the character time of every link rate is whole
(3125/36, 3125/144, 3125/288 and 5 us; R153). DEDUCED, log 5. -/
def unitsPerMicrosecond : Nat := 288

/-- An interval of whole microseconds in clock units. -/
def microseconds (n : Nat) : Nat := n * unitsPerMicrosecond

/-- An interval of whole milliseconds in clock units. -/
def milliseconds (n : Nat) : Nat := microseconds (n * 1000)

/-- Ten bit times at the strapped rate (R153): RATE1 RATE0 = 00 is 115200 bit/s, 01 460800, 10 921600, 11 2,000,000. -/
def characterTime (rate : Fin 4) : Nat :=
  match rate.val with
  | 0 => 25000
  | 1 => 6250
  | 2 => 3125
  | _ => 1440

/-- Pages of capture memory (R1). -/
def pageTotal : Nat := 192

/-- The capture reserve: pages that rings may not take (R5). -/
def captureReserve : Nat := 8

/-- Records in the table (R46). -/
def recordTotal : Nat := 32

/-- Retrigger entries in a record (R27). -/
def retriggerTotal : Nat := 4

/-- Entries in the alarm list (R134). -/
def alarmTotal : Nat := 8

/-- Sends of one alarm entry (R139). -/
def sendTotal : Nat := 3

/-- Requests in the inbound queue (R165). -/
def inboundTotal : Nat := 4

/-- Frames in the URGENT queue (R171). -/
def urgentTotal : Nat := 4

/-- Frames in the NORMAL queue (R171). -/
def normalTotal : Nat := 8

/-- Places of the NORMAL queue that notices leave free (R145). -/
def noticeReserve : Nat := 2

/-- Data bytes in a full chunk (R63). -/
def chunkData : Nat := 236

/-- A counter's maximum (R148). -/
def counterMaximum : Nat := 65535

/-- The drop count's maximum (R136). -/
def dropMaximum : Nat := 255

/-- The total H over enabled streams that Start accepts (R123). -/
def historyTotal : Nat := 128

/-- The TRIG_OUT pulse: 10 us (R34). -/
def trigOutPulse : Nat := microseconds 10

/-- The acknowledgement timer: 200 ms (R138). -/
def acknowledgementTime : Nat := milliseconds 200

/-- The inter-character timer: 20 ms (R163). -/
def interCharacterTime : Nat := milliseconds 20

/-- The streams, ascending. -/
def allStreams : List (Fin 16) := [0, 1, 2, 3, 4, 5, 6, 7, 8, 9, 10, 11, 12, 13, 14, 15]

/-- The watches, ascending. -/
def allWatches : List (Fin 8) := [0, 1, 2, 3, 4, 5, 6, 7]

/-- The counters, in id order (R148). -/
def allCounters : List CounterId :=
  [.roundOverrun, .filterSaturation, .historyLost, .captureLostFull, .captureLostOverlap, .streamTruncated, .rxCrc,
    .rxFraming, .rxTimeout, .requestDiscarded, .noticeDropped, .alarmDropped, .alarmUndelivered, .recordDiscarded,
    .linkResets, .replyDiscarded]

/-- One entry of a table replaced. -/
def put {α : Type} {n : Nat} (v : Vector α n) (k : Fin n) (x : α) : Vector α n := v.set k.val x k.isLt

end Sys2Proof.Machine
end

