-- ==== Sys2Proof/Machine/ResetValues.lean ====
section
/-! DEFINITION. The reset value of every block, as its chapter gives it. -/

namespace Sys2Proof.Machine

/-- R106. -/
def resetStream : StreamSettings :=
  { enabled := false, filter := .bypass, decimation := 1, history := 0, format := .full }

/-- R108. -/
def resetCoefficients : CoefficientSet := { shift := 0, coefficients := [] }

/-- R111. -/
def resetFilter : FilterState := { delayLine := [], count := 0, index := 0, due := none }

/-- An empty page list (R9, R13, R21). -/
def emptyRun : PageRun := { pages := [], fill := 0, pendingBlock := [] }

/-- R21: an empty ring with a clear starved mark. -/
def emptyRing : Ring := { run := emptyRun, starved := false }

/-- R21: all 192 pages, in ascending internal page order. -/
def resetFreeList : List Page := (List.range pageTotal).map fun n => { number := n, content := [] }

/-- R22. -/
def resetProfile : Profile := { mask := 0, preCount := 0, postCount := 1, extend := false }

/-- R61: the readout source is IDLE; in IDLE its other fields have no meaning (DESIGN CHOICE 0, log 9). -/
def resetReadout : Readout := { state := .idle, record := 0, tag := 0, length := 0, offset := 0 }

/-- R70. -/
def resetWatchDefinition : WatchDefinition :=
  { enabled := false, stream := 0, kind := .above, low := BitVec.ofInt 16 (-32768), high := BitVec.ofInt 16 32767,
    hysteresis := 0, qualify := 1, holdoff := 0, profile := none, alarm := false, oneShot := false }

/-- R70: DISARMED, counts 0, no previous sample. -/
def resetWatch : Watch :=
  { definition := resetWatchDefinition, state := .disarmed, qualifyCount := 0, holdoffCount := 0, previous := none,
    firing := none }

/-- R85. -/
def resetExternal : ExternalTrigger :=
  { definition := { enabled := false, edge := .rising, profile := none, alarm := false, holdoff := 0 },
    state := .disarmed }

/-- R121. -/
def resetSettings : AcquisitionSettings := { source := .paced, period := 1000, policy := .refuseNew }

/-- R152. -/
def resetCounter : Counter := { value := 0, mark := .clear }

/-- R158: HUNT with the break mark clear. -/
def resetReceiver : Receiver :=
  { state := .hunt, content := [], expected := none, timer := none, breakMark := false }

/-- R182: empty queues, stack and buffer, nothing being sent and TXD high, at a given link rate (R153). -/
def resetTransmit (rate : Fin 4) : TransmitUnit :=
  { rate := rate, urgent := [], normal := [], bulk := none, sending := none, suspended := [], line := none,
    lineTime := 0, tail := [] }

/-- R183: FREE with no request in execution. -/
def resetDispatcher : Dispatcher := { state := .free, behind := 0, held := none }

/-- R103: the Timebase is 0. -/
def resetClock : Clock := { timebase := 0, phase := 0 }

end Sys2Proof.Machine
end

