-- ==== Sys2Proof/Machine/State.lean ====
section
/-! DEFINITION. The state of the GW416: every piece of state the manual names, the queue of commands, and the reset. -/

namespace Sys2Proof.Machine

/-- The whole part. Plain data; the list that INVENTORY.md gives under '## State'. -/
structure State where
  /-- The Timebase (R103). -/
  clock : Clock
  /-- RESET and a reset in progress (R181, R221). -/
  resetting : ResetState
  /-- CONV_IN, TRIG_IN and TRIG_OUT (R222, R223). -/
  pins : Pins
  /-- The scan list (R90). -/
  scan : List Slot
  /-- The round state (R94). -/
  round : RoundState
  /-- The pacer (R94). -/
  pacer : Pacer
  /-- Stream settings (R106). -/
  streams : Vector StreamSettings 16
  /-- Coefficient sets (R108). -/
  coefficients : Vector CoefficientSet 4
  /-- Filter working state (R111). -/
  filters : Vector FilterState 16
  /-- The free list, head first (R2). -/
  free : List Page
  /-- The history rings (R9). -/
  rings : Vector Ring 16
  /-- The sinks (R7). -/
  sinks : Vector Sink 16
  /-- The profiles (R22). -/
  profiles : Vector Profile 4
  /-- Each profile's open-record state (R32). -/
  openRecord : Vector (Option Nat) 4
  /-- The record table, oldest first (R46). -/
  records : List CaptureRecord
  /-- The next record number (R33). -/
  nextRecord : Nat
  /-- The bulk readout source (R61). -/
  readout : Readout
  /-- The watches (R70). -/
  watches : Vector Watch 8
  /-- The external trigger (R85). -/
  external : ExternalTrigger
  /-- Triggers that a watch or the external trigger has sent and the Capture Manager has not yet taken (R26, R75). -/
  triggers : List Trigger
  /-- The acquisition state (R120). -/
  acquisition : AcquisitionState
  /-- The acquisition settings (R121). -/
  settings : AcquisitionSettings
  /-- The alarm list, oldest first (R134). -/
  alarms : List AlarmEntry
  /-- The next alarm id (R134). -/
  nextAlarm : Byte
  /-- The drop count (R136). -/
  dropCount : Nat
  /-- Alarm requests made and not yet taken by the Alarm Unit (R76). -/
  alarmRequests : List AlarmRequest
  /-- The fault counters, by id (R148). -/
  counters : Vector Counter 16
  /-- The Link Receiver (R158). -/
  receiver : Receiver
  /-- The inbound queue, oldest first (R165). -/
  inbound : List Request
  /-- The Transmit Unit (R170 to R182). -/
  transmit : TransmitUnit
  /-- The Request Dispatcher (R183, R188). -/
  dispatcher : Dispatcher
  /-- The MODEL's own: free values drawn so far (log 6). -/
  draws : Nat
  /-- The MODEL's own: the commands that are waiting, first in first out. -/
  pending : List Instr
  deriving DecidableEq, Repr

/-- No command of the GW416 stops the machine with a fault: the manual answers what it refuses with a reply status
(R185) and counts what it loses (R148). -/
inductive Fault where
  deriving DecidableEq, Repr

/-- Why a command has no meaning. -/
inductive Refusal where
  /-- A row of the table without a meaning in the model; raised by no command (every row has its meaning). Safe. -/
  | notModelled (mnemonic : String)
  deriving DecidableEq, Repr

/-- The part right after a reset: every block at its reset value. The RESTARTED notice that reports the reset is not yet
queued (POWER_ON_RESET and PIN_RESET_END queue it). The link rate and the accepted pin levels, which a reset samples, are
DESIGN CHOICE values here (log 9). The spec names no reset value for the triggers and the alarm requests on their way: a
reset drops them (DESIGN CHOICE, log 27). -/
def State.reset : State :=
  { clock := resetClock
    resetting := { pinLow := false, held := false, awaited := none }
    pins := { convIn := .low, trigIn := .low, trigOut := none }
    scan := []
    round := .noRound
    pacer := .stopped
    streams := Vector.replicate 16 resetStream
    coefficients := Vector.replicate 4 resetCoefficients
    filters := Vector.replicate 16 resetFilter
    free := resetFreeList
    rings := Vector.replicate 16 emptyRing
    sinks := Vector.replicate 16 .none
    profiles := Vector.replicate 4 resetProfile
    openRecord := Vector.replicate 4 none
    records := []
    nextRecord := 1
    readout := resetReadout
    watches := Vector.replicate 8 resetWatch
    external := resetExternal
    triggers := []
    acquisition := .idle
    settings := resetSettings
    alarms := []
    nextAlarm := 0
    dropCount := 0
    alarmRequests := []
    counters := Vector.replicate 16 resetCounter
    receiver := resetReceiver
    inbound := []
    transmit := resetTransmit 0
    dispatcher := resetDispatcher
    draws := 0
    pending := [] }

end Sys2Proof.Machine
end

