-- ==== Sys2Proof/Machine/Ops.lean ====
section
/-! DEFINITION. The operations every block shares: elapsed time, counters with their marks, and notices. -/

namespace Sys2Proof.Machine

/-! ## Time (R103, R104) -/

/-- The Timebase and its part of a microsecond after some clock units (R103: it wraps at 2^48). -/
def advanceClock (units : Nat) (c : Clock) : Clock :=
  { timebase := c.timebase + BitVec.ofNat 48 ((c.phase + units) / unitsPerMicrosecond)
    phase := (c.phase + units) % unitsPerMicrosecond }

/-- An acknowledgement timer runs only in WAITING (R138). -/
def ageAlarm (units : Nat) (e : AlarmEntry) : AlarmEntry :=
  { e with state :=
      match e.state with
      | .waiting remaining => .waiting (remaining - units)
      | .pending => .pending
      | .queued => .queued }

/-- The conversion in progress draws nearer to its completion (R91). -/
def ageRound (units : Nat) : RoundState → RoundState
  | .inRound start slot remaining => .inRound start slot (remaining - units)
  | .noRound => .noRound

/-- The pacer draws nearer to its expiry (R98). -/
def agePacer (units : Nat) : Pacer → Pacer
  | .running period remaining => .running period (remaining - units)
  | .stopped => .stopped

/-- The external trigger's holdoff timer runs in HOLDOFF (R87). -/
def ageExternal (units : Nat) : ExternalState → ExternalState
  | .holdoff remaining => .holdoff (remaining - units)
  | .armed => .armed
  | .disarmed => .disarmed

/-- Clock units pass: the Timebase counts and every running timer draws nearer to its end. The intervals count elapsed
time, not Timebase values (R104). A timer that has run out waits, at 0, for its command. -/
def elapse (units : Nat) (s : State) : State :=
  { s with
    clock := advanceClock units s.clock
    round := ageRound units s.round
    pacer := agePacer units s.pacer
    pins := { s.pins with trigOut := s.pins.trigOut.map fun left => left - units }
    external := { s.external with state := ageExternal units s.external.state }
    alarms := s.alarms.map (ageAlarm units)
    receiver := { s.receiver with timer := s.receiver.timer.map fun left => left - units }
    transmit := { s.transmit with lineTime := s.transmit.lineTime - units } }

/-! ## Counters (R148 to R150) -/

/-- The counter with a given id. -/
def counterOf (s : State) (id : CounterId) : Counter := s.counters[counterIndex id]

/-- A counter replaced. -/
def setCounter (id : CounterId) (c : Counter) (s : State) : State :=
  { s with counters := put s.counters (counterIndex id) c }

/-- A first-occurrence mark set (R149). -/
def setMark (id : CounterId) (m : Mark) (s : State) : State :=
  setCounter id { counterOf s id with mark := m } s

/-- A counter's value rises by 1 (R148); its mark stays. -/
def countOne (id : CounterId) (s : State) : State :=
  setCounter id { counterOf s id with value := saturatingUp (counterOf s id).value } s

/-- NOTICE_DROPPED rises by 1; on its first rise its mark becomes UNREPORTED and no notice is attempted (R150). -/
def countDroppedNotice (s : State) : State :=
  if (counterOf s .noticeDropped).value = 0 then setMark .noticeDropped .unreported (countOne .noticeDropped s)
  else countOne .noticeDropped s

/-! ## Notices (R145, R188) -/

/-- A frame joins the end of the NORMAL queue (R171). -/
def queueNormal (f : Frame) (s : State) : State :=
  { s with transmit := { s.transmit with normal := s.transmit.normal ++ [f] } }

/-- The mark of the counter that a FAULT notice names; other notices set none (R150). -/
def markNotice (n : Notice) (m : Mark) (s : State) : State :=
  match n with
  | .fault id _ => setMark id m s
  | .restarted _ => s
  | .captureDone _ _ _ => s
  | .acquisitionIdle _ _ _ => s
  | .readoutEnded _ _ _ => s
  | .alarmLost _ _ _ _ => s
  | .recordDiscarded _ => s

/-- Whether more than 2 of the 8 places of the NORMAL queue are free (R145). -/
def noticeFits (s : State) : Bool := decide (s.transmit.normal.length + noticeReserve < normalTotal)

/-- A notice is offered to the NORMAL queue under the reserve: queued, or refused with NOTICE_DROPPED (R145, R150). -/
def offerNotice (n : Notice) (s : State) : State :=
  if noticeFits s then queueNormal (noticeFrame n) (markNotice n .reported s)
  else countDroppedNotice (markNotice n .unreported s)

/-- A block raises a notice: it is held while a request is carried out (R188), and offered at once otherwise. -/
def raiseNotice (n : Notice) (s : State) : State :=
  match s.dispatcher.held with
  | some notices => { s with dispatcher := { s.dispatcher with held := some (notices ++ [n]) } }
  | none => offerNotice n s

/-- One occurrence of a counter's cause (R148). On its rise from 0 to 1: LINK_RESETS becomes REPORTED, NOTICE_DROPPED
UNREPORTED, and every other counter raises a FAULT notice with the Timebase value (R147, R150). -/
def countUp (id : CounterId) (s : State) : State :=
  if (counterOf s id).value = 0 then
    match id with
    | .linkResets => setMark .linkResets .reported (countOne .linkResets s)
    | .noticeDropped => setMark .noticeDropped .unreported (countOne .noticeDropped s)
    | other => raiseNotice (.fault other s.clock.timebase) (countOne other s)
  else countOne id s

/-- From here the notices that are raised are held (R188; for a link reset, until step 6 of R167). -/
def holdNotices (s : State) : State := { s with dispatcher := { s.dispatcher with held := some [] } }

/-- The notices held. -/
def heldNotices (s : State) : List Notice := s.dispatcher.held.getD []

/-- Holding ends. -/
def stopHolding (s : State) : State := { s with dispatcher := { s.dispatcher with held := none } }

/-- The held notices are offered one after another, each under the reserve (R188). -/
def offerHeld (s : State) : State :=
  (heldNotices s).foldl (fun t n => offerNotice n t) (stopHolding s)

end Sys2Proof.Machine
end

