-- ==== Sys2Proof/Machine/Packing.lean ====
section
/-! DEFINITION. Storage formats and shared-shift block packing (R3, R4, R51, R52). -/

namespace Sys2Proof.Machine

/-- C: the positions of a page (R3). -/
def positions : Format → Nat
  | .full => 128
  | .packed => 240

/-- Positions of a block (R4). -/
def blockPositions : Nat := 16

/-- floor(x / 2^s). -/
def shiftedDown (s : Nat) (x : Sample) : Int := x.toInt / (2 ^ s : Nat)

/-- Whether every sample's floor(x / 2^s) lies in -128 to 127 (R51). -/
def shiftFits (s : Nat) (samples : List Sample) : Bool :=
  samples.all fun x => decide (-128 ≤ shiftedDown s x ∧ shiftedDown s x ≤ 127)

/-- The shift of a block: the smallest in 0 to 8 that fits its stored samples (R51; 8 always fits). -/
def blockShift (samples : List Sample) : Nat :=
  (([0, 1, 2, 3, 4, 5, 6, 7] : List Nat).find? fun s => shiftFits s samples).getD 8

/-- The mantissa of a stored sample: floor(x / 2^s), as a signed byte (R52). -/
def mantissa (s : Nat) (x : Sample) : Byte := BitVec.ofInt 8 (shiftedDown s x)

/-- An encoded block: the shift byte, a mantissa per stored sample, and zero mantissas in the positions never filled
(R52). -/
def encodeBlock (samples : List Sample) : List Byte :=
  byteOf (blockShift samples) ::
    (samples.map (mantissa (blockShift samples)) ++ List.replicate (blockPositions - samples.length) 0)

/-- Bytes of an encoded block (R3). -/
def blockBytes : Nat := 17

end Sys2Proof.Machine
end

