-- ==== Sys2Proof/Machine/Pool.lean ====
section
/-! DEFINITION. The Page Pool: page lists, page requests, history rings and the handover arithmetic (chapter 1). -/

namespace Sys2Proof.Machine

/-! ## Page lists -/

/-- A page that holds no positions: on the free list, or just granted (R2). -/
def blankPage (p : Page) : Page := { p with content := [] }

/-- A change of the tail page, the newest of a list. -/
def onTail (f : Page → Page) : List Page → List Page
  | [] => []
  | [p] => [f p]
  | p :: q :: rest => p :: onTail f (q :: rest)

/-- Bytes written after those a page already holds. -/
def writeBytes (bytes : List Byte) (p : Page) : Page := { p with content := p.content ++ bytes }

/-- A sample stored in the next position of the tail page: a FULL sample in its position (R3), a PACKED one in the
pending block, which is encoded into the page when it holds 16 (R4). -/
def storeSample (format : Format) (x : Sample) (run : PageRun) : PageRun :=
  match format with
  | .full => { run with pages := onTail (writeBytes (sampleBytes x)) run.pages, fill := run.fill + 1 }
  | .packed =>
    if run.pendingBlock.length + 1 < blockPositions then
      { run with pendingBlock := run.pendingBlock ++ [x], fill := run.fill + 1 }
    else
      { pages := onTail (writeBytes (encodeBlock (run.pendingBlock ++ [x]))) run.pages, fill := run.fill + 1,
        pendingBlock := [] }

/-- A granted page joins the tail with a fill of 0 (R2, R5). -/
def joinPage (p : Page) (run : PageRun) : PageRun :=
  { pages := run.pages ++ [blankPage p], fill := 0, pendingBlock := [] }

/-- A ring recycles: its head page moves to its tail and that page's old content is discarded (R10, R11). -/
def recycle (run : PageRun) : PageRun :=
  match run.pages with
  | [] => run
  | p :: rest => { pages := rest ++ [blankPage p], fill := 0, pendingBlock := [] }

/-- A non-empty pending block is encoded with zero mantissas in the positions never filled (R15). -/
def encodePending (run : PageRun) : PageRun :=
  if run.pendingBlock.isEmpty then run
  else { run with pages := onTail (writeBytes (encodeBlock run.pendingBlock)) run.pages, pendingBlock := [] }

/-- Whether the tail page has room for another sample. -/
def hasRoom (format : Format) (run : PageRun) : Bool :=
  !run.pages.isEmpty && decide (run.fill < positions format)

/-! ## The free list (R2, R5) -/

/-- Pages are appended at the tail of the free list in the order given; they hold no positions there (R2). -/
def giveBack (pages : List Page) (s : State) : State := { s with free := s.free ++ pages.map blankPage }

/-- A page request: granted, with the head page, when the free count is above a level (R5). -/
def takePage (level : Nat) (s : State) : Option (Page × State) :=
  match s.free with
  | p :: rest => if level < s.free.length then some (p, { s with free := rest }) else none
  | [] => none

/-- A ring request is granted when the free count is greater than 8 (R5). -/
def ringRequest (s : State) : Option (Page × State) := takePage captureReserve s

/-- A record request is granted when the free count is greater than 0 (R5). -/
def recordRequest (s : State) : Option (Page × State) := takePage 0 s

/-! ## History rings (R9 to R12) -/

/-- A ring replaced. -/
def setRing (k : Fin 16) (r : Ring) (s : State) : State := { s with rings := put s.rings k r }

/-- A sink replaced. -/
def setSink (k : Fin 16) (sink : Sink) (s : State) : State := { s with sinks := put s.sinks k sink }

/-- S: the samples a ring holds (R9). -/
def ringSamples (format : Format) (r : Ring) : Nat :=
  if r.run.pages.isEmpty then 0 else (r.run.pages.length - 1) * positions format + r.run.fill

/-- A ring request after which the ring stores, recycles or discards the sample (R10, R11). -/
def ringGrow (k : Fin 16) (x : Sample) (s : State) : State :=
  match ringRequest s with
  | some (p, t) =>
    setRing k { run := storeSample s.streams[k].format x (joinPage p s.rings[k].run), starved := false } t
  | none =>
    if s.rings[k].run.pages.isEmpty then countUp .historyLost s
    else setRing k { run := storeSample s.streams[k].format x (recycle s.rings[k].run), starved := true } s

/-- A sample is delivered to a ring (R10): stored, or the ring recycles on reaching H, or it asks for a page. -/
def ringStore (k : Fin 16) (x : Sample) (s : State) : State :=
  if hasRoom s.streams[k].format s.rings[k].run then
    setRing k { s.rings[k] with run := storeSample s.streams[k].format x s.rings[k].run } s
  else if s.rings[k].run.pages.length < s.streams[k].history then ringGrow k x s
  else setRing k { s.rings[k] with run := storeSample s.streams[k].format x (recycle s.rings[k].run) } s

/-- A ring gives up its pages, head first, and is left empty with a clear starved mark (R12, R19). -/
def emptyRingOf (k : Fin 16) (s : State) : State :=
  setRing k emptyRing (giveBack s.rings[k].run.pages s)

/-- Every ring gives up its pages, in ascending stream number (R19). -/
def emptyAllRings (s : State) : State := allStreams.foldl (fun t k => emptyRingOf k t) s

/-- The sink of a stream that is not collecting: RING when H > 0, otherwise NONE (R7, R15). -/
def idleSink (settings : StreamSettings) : Sink := if settings.history = 0 then .none else .ring

/-! ## Handover (R16) -/

/-- ceil(a / b), for b > 0. -/
def ceilDiv (a b : Nat) : Nat := (a + b - 1) / b

/-- The available pre count p = min(P, S) (R16). -/
def availablePre (format : Format) (wanted : Nat) (r : Ring) : Nat := min wanted (ringSamples format r)

/-- k: the pages a handover takes (R16). -/
def pagesTaken (format : Format) (p fill : Nat) : Nat :=
  if p = 0 then 0 else if p ≤ fill then 1 else 1 + ceilDiv (p - fill) (positions format)

/-- lead_total: the positions ahead of the window in the first page taken (R16). -/
def leadingSkip (format : Format) (p fill : Nat) : Nat :=
  if p = 0 then 0
  else if p ≤ fill then fill - p
  else (pagesTaken format p fill - 1) * positions format + fill - p

/-- The older pages of a ring, which a handover returns, and the last k, which it takes (R16). -/
def splitRing (k : Nat) (pages : List Page) : List Page × List Page :=
  (pages.take (pages.length - k), pages.drop (pages.length - k))

/-- The page list a stream part starts with: the pages taken, with the ring's tail fill and pending block when it takes
any (R16). -/
def handedRun (k : Nat) (run : PageRun) : PageRun :=
  if k = 0 then emptyRun
  else { pages := (splitRing k run.pages).2, fill := run.fill, pendingBlock := run.pendingBlock }

/-! ## Counts (R1) -/

/-- Pages held by all history rings (R1). -/
def ringPageTotal (s : State) : Nat := (s.rings.toList.map fun r => r.run.pages.length).sum

/-- Pages held by one record. -/
def recordPages (r : CaptureRecord) : List Page := r.parts.flatMap fun p => p.run.pages

/-- Pages held by all records in the table (R1). -/
def recordPageTotal (s : State) : Nat := (s.records.map fun r => (recordPages r).length).sum

end Sys2Proof.Machine
end

