-- ==== Sys2Proof/Machine/Image.lean ====
section
/-! DEFINITION. The record image: content, layout and length (3.2, 12.3). -/

namespace Sys2Proof.Machine

/-- n: the window samples of a part (R56). -/
def windowLength (p : StreamPart) : Nat := p.preCount + p.postCount

/-- The section's lead: 0 for FULL, lead_total mod 16 for PACKED (R57, R58). -/
def sectionLead (p : StreamPart) : Nat :=
  match p.format with
  | .full => 0
  | .packed => p.leadTotal % blockPositions

/-- Blocks in a PACKED part's data: ceil((lead + n) / 16), and none when n = 0 (R58). -/
def blockCount (p : StreamPart) : Nat :=
  if windowLength p = 0 then 0 else ceilDiv (sectionLead p + windowLength p) blockPositions

/-- The data length of a part (R57, R58). -/
def dataLength (p : StreamPart) : Nat :=
  match p.format with
  | .full => 2 * windowLength p
  | .packed => blockBytes * blockCount p

/-- The bytes stored in a part's pages, in list order. -/
def storedBytes (p : StreamPart) : List Byte := p.run.pages.flatMap fun page => page.content

/-- The bytes of a part ahead of its first data byte: the leading positions of a FULL part (R57), the leading blocks of
a PACKED one (R58). -/
def skippedBytes (p : StreamPart) : Nat :=
  match p.format with
  | .full => 2 * p.leadTotal
  | .packed => blockBytes * (p.leadTotal / blockPositions)

/-- The data of a part (R57, R58). -/
def partData (p : StreamPart) : List Byte := ((storedBytes p).drop (skippedBytes p)).take (dataLength p)

/-- The slot settings byte of a stream section (R219). -/
def slotSettingsByte (p : StreamPart) : Byte :=
  byteOf ((polarityByte p.polarity).toNat + 2 * p.gain.val + 8 * p.starved.toNat)

/-- The stream section of a part (R56, R219). -/
def streamSection (p : StreamPart) : List Byte :=
  [byteOf p.stream.val, formatByte p.format, byteOf p.input.val, slotSettingsByte p, byteOf p.decimation,
    byteOf (sectionLead p)]
    ++ lowFirst 2 p.preCount ++ lowFirst 2 p.postCount ++ lowFirst 4 p.firstIndex.toNat ++ lowFirst 2 (dataLength p)

/-- A retrigger entry of the image (R59, R220). -/
def retriggerEntry (e : Retrigger) : List Byte := [sourceByte e.source, flagByte e.extended] ++ timeBytes e.time

/-- The image length: 32, 16 and the data for each part, 8 for each retrigger entry (R60). -/
def imageLength (r : CaptureRecord) : Nat :=
  32 + (r.parts.map fun p => 16 + dataLength p).sum + 8 * r.retriggers.length

/-- The image header (R54, R218); the trigger stream, index and value are 0 when absent. -/
def imageHeader (r : CaptureRecord) : List Byte :=
  lowFirst 2 r.number
    ++ [byteOf r.profile.val, flagsByte (flagsAtClosing r.flags), sourceByte r.source, byteOf r.parts.length,
      byteOf r.retriggers.length, byteOf ((r.sample.map fun x => x.stream.val).getD 0)]
    ++ timeBytes r.time
    ++ lowFirst 4 ((r.sample.map fun x => x.index.toNat).getD 0)
    ++ sampleBytesOrZero (r.sample.map fun x => x.value)
    ++ timeBytes (r.closeTime.getD 0)
    ++ lowFirst 2 r.requestedPre ++ lowFirst 2 r.requestedPost ++ lowFirst 2 (imageLength r)

/-- The image of a record: header, each part's section and data, then the retrigger entries (R53). -/
def recordImage (r : CaptureRecord) : List Byte :=
  imageHeader r ++ r.parts.flatMap (fun p => streamSection p ++ partData p) ++ r.retriggers.flatMap retriggerEntry

end Sys2Proof.Machine
end

