-- ==== Sys2Proof/Machine/Capture.lean ====
section
/-! DEFINITION. The Capture Manager: records, collecting, the decision at a trigger, removal and the end of a readout
(chapters 2 and 3). -/

namespace Sys2Proof.Machine

/-! ## The record table (R46) -/

/-- The first member of a list that a test picks, changed; the others stay. -/
def changeFirst {α : Type} (picks : α → Bool) (f : α → α) : List α → List α
  | [] => []
  | x :: rest => if picks x then f x :: rest else x :: changeFirst picks f rest

/-- The record with a number (R33: numbers in the table are distinct). -/
def findRecord (n : Nat) (s : State) : Option CaptureRecord := s.records.find? fun r => r.number == n

/-- A record changed. -/
def changeRecord (n : Nat) (f : CaptureRecord → CaptureRecord) (s : State) : State :=
  { s with records := changeFirst (fun r => r.number == n) f s.records }

/-- A stream part of a record. -/
def findPart (k : Fin 16) (r : CaptureRecord) : Option StreamPart := r.parts.find? fun p => p.stream == k

/-- A stream part of a record changed. -/
def changePart (n : Nat) (k : Fin 16) (f : StreamPart → StreamPart) (s : State) : State :=
  changeRecord n (fun r => { r with parts := changeFirst (fun p => p.stream == k) f r.parts }) s

/-- A record's flags changed (R36). -/
def changeFlags (n : Nat) (f : RecordFlags → RecordFlags) (s : State) : State :=
  changeRecord n (fun r => { r with flags := f r.flags }) s

/-- Whether a record is OPEN. -/
def isOpen (r : CaptureRecord) : Bool := decide (r.state = .opened)

/-- Whether any record is OPEN (R127). -/
def anyOpen (s : State) : Bool := s.records.any isOpen

/-- The record that a stream is collecting for: the one its sink names (R7). -/
def capturing (k : Fin 16) (s : State) : Option Nat :=
  match s.sinks[k] with
  | .capture n => some n
  | .ring => none
  | .none => none

/-- A removed record leaves the table and its pages return, part by part and head first (R18, R31, R47, R49). -/
def removeRecord (n : Nat) (s : State) : State :=
  { giveBack ((s.records.filter fun r => r.number == n).flatMap recordPages) s with
    records := s.records.filter fun r => !(r.number == n) }

/-! ## Collecting and closing (R13 to R15, R39 to R42) -/

/-- A stream stops collecting for its record: its pending block is encoded, its part is final, and its sink returns to
an empty ring or to NONE (R15, R40). -/
def stopCollecting (n : Nat) (k : Fin 16) (s : State) : State :=
  setSink k (idleSink s.streams[k])
    (emptyRingOf k
      (changePart n k (fun p => { p with run := encodePending p.run, collecting := false, remaining := 0 }) s))

/-- A record closes: SEALED with its close time, its profile has no OPEN record, and CAPTURE_DONE is raised (R42). -/
def closeRecord (r : CaptureRecord) (s : State) : State :=
  raiseNotice (.captureDone r.number r.flags (imageLength r))
    { changeRecord r.number (fun x => { x with state := .closed, closeTime := some s.clock.timebase }) s with
      openRecord := put s.openRecord r.profile none }

/-- An OPEN record closes when none of its parts is collecting (R41). -/
def closeIfDone (n : Nat) (s : State) : State :=
  match findRecord n s with
  | some r => if isOpen r && !(r.parts.any fun p => p.collecting) then closeRecord r s else s
  | none => s

/-- A refused record request cuts the window: the sample is lost, the stream stops collecting, the record gains
TRUNCATED and STREAM_TRUNCATED rises; then the record closes if no stream is left (R14, R41; the order is log 18). -/
def cutWindow (n : Nat) (k : Fin 16) (s : State) : State :=
  closeIfDone n
    (countUp .streamTruncated (changeFlags n (fun f => { f with truncated := true }) (stopCollecting n k s)))

/-- A post sample counted as it is stored (R39). -/
def countPost (run : PageRun) (p : StreamPart) : StreamPart :=
  { p with run := run, postCount := p.postCount + 1, remaining := p.remaining - 1 }

/-- A sample is delivered to a collecting stream: stored in its part, on a granted page when the tail is full, or the
window is cut (R13, R14). -/
def captureStore (n : Nat) (k : Fin 16) (x : Sample) (s : State) : State :=
  match (findRecord n s).bind (findPart k) with
  | none => s
  | some p =>
    if hasRoom p.format p.run then changePart n k (countPost (storeSample p.format x p.run)) s
    else
      match recordRequest s with
      | some (page, t) => changePart n k (countPost (storeSample p.format x (joinPage page p.run))) t
      | none => cutWindow n k s

/-- The stream part of the record that a stream is collecting for. -/
def collectingPart (k : Fin 16) (s : State) : Option (Nat × StreamPart) :=
  (capturing k s).bind fun n => ((findRecord n s).bind (findPart k)).map fun p => (n, p)

/-- A stream's post count has reached 0 and the stream has not yet stopped collecting: POST_COUNT_REACHED is due (R39). -/
def postCountDue (k : Fin 16) (s : State) : Option Nat :=
  (collectingPart k s).bind fun (n, p) => if p.collecting && p.remaining == 0 then some n else none

/-! ## Numbers (R33) -/

/-- The number after a record number: 65535 is followed by 1. -/
def numberAfter (n : Nat) : Nat := if n < 65535 then n + 1 else 1

/-- The numbers tried, in turn. -/
def numbersFrom : Nat → Nat → List Nat
  | 0, _ => []
  | count + 1, n => n :: numbersFrom count (numberAfter n)

/-- The number an opening takes: the next record number, passing over those in the table (at most 32). -/
def freshNumber (s : State) : Nat :=
  ((numbersFrom (recordTotal + 1) s.nextRecord).find? fun n => !(s.records.any fun r => r.number == n)).getD
    s.nextRecord

/-! ## The decision at a trigger (R24 to R32) -/

/-- Whether a stream is in a mask (R197). -/
def inMask (mask : StreamMask) (k : Fin 16) : Bool := mask.getLsbD k.val

/-- The streams of a mask, ascending. -/
def maskStreams (mask : StreamMask) : List (Fin 16) := allStreams.filter (inMask mask)

/-- The streams of a profile's mask that a new record includes: those not collecting (R29). -/
def includedStreams (mask : StreamMask) (s : State) : List (Fin 16) :=
  (maskStreams mask).filter fun k => (capturing k s).isNone

/-- Whether a stream of the mask is left out (R29). -/
def leavesOut (mask : StreamMask) (s : State) : Bool := (maskStreams mask).any fun k => (capturing k s).isSome

/-- An extension: every collecting part's remaining post count becomes Q (R28). -/
def extendPart (postCount : Nat) (p : StreamPart) : StreamPart :=
  if p.collecting then { p with remaining := postCount } else p

/-- The retrigger of an OPEN record: an entry, and the extension when the profile extends; or RETRIG_OVERFLOW when the
list holds 4 (R27, R28). -/
def retriggered (profile : Profile) (t : Trigger) (r : CaptureRecord) : CaptureRecord :=
  if r.retriggers.length < retriggerTotal then
    { r with
      retriggers := r.retriggers ++ [{ source := t.source, time := t.time, extended := profile.extend }]
      parts := if profile.extend then r.parts.map (extendPart profile.postCount) else r.parts
      flags := { r.flags with extended := r.flags.extended || profile.extend } }
  else { r with flags := { r.flags with retrigOverflow := true } }

/-- The slot of a stream; a stream of an opening always has one (R23, R123; the value for one without is log 21). -/
def slotOf (k : Fin 16) (s : State) : Slot :=
  s.scan.getD k.val { input := 0, polarity := .normal, gain := 0, settle := 0 }

/-- The stream part that a handover makes from a stream's ring, settings and slot (R16, R17, R37, R38). The first window
sample index is the index of the next sample less p: p - 1 places before the most recent one, or the next one for p = 0. -/
def partOf (profile : Profile) (k : Fin 16) (s : State) : StreamPart :=
  let format := s.streams[k].format
  let ring := s.rings[k]
  let p := availablePre format profile.preCount ring
  { stream := k
    format := format
    input := (slotOf k s).input
    polarity := (slotOf k s).polarity
    gain := (slotOf k s).gain
    decimation := s.streams[k].decimation
    starved := ring.starved
    leadTotal := leadingSkip format p ring.run.fill
    preCount := p
    postCount := 0
    firstIndex := s.filters[k].index - BitVec.ofNat 32 p
    run := handedRun (pagesTaken format p ring.run.fill) ring.run
    collecting := true
    remaining := profile.postCount }

/-- The pages of a ring that its handover returns (R16): the older ones, and all of them when none is taken. -/
def returnedPages (profile : Profile) (k : Fin 16) (s : State) : List Page :=
  let format := s.streams[k].format
  let ring := s.rings[k]
  (splitRing (pagesTaken format (availablePre format profile.preCount ring) ring.run.fill) ring.run.pages).1

/-- The handover of a stream's history to a record (R16): the ring is left empty and the sink names the record. -/
def handOver (number : Nat) (profile : Profile) (k : Fin 16) (s : State) : State :=
  setSink k (.capture number) (setRing k emptyRing (giveBack (returnedPages profile k s) s))

/-- The handovers of an opening, one stream at a time in ascending stream number (R32). -/
def handOverAll (number : Nat) (profile : Profile) : List (Fin 16) → State → List StreamPart × State
  | [], s => ([], s)
  | k :: rest, s =>
    let (parts, t) := handOverAll number profile rest (handOver number profile k s)
    (partOf profile k s :: parts, t)

/-- Step 4: a new record opens (R32 to R34). -/
def openRecordFor (t : Trigger) (s : State) : State × TriggerOutcome :=
  let profile := s.profiles[t.profile]
  let number := freshNumber s
  let (parts, u) := handOverAll number profile (includedStreams profile.mask s) s
  let record : CaptureRecord :=
    { number := number
      profile := t.profile
      state := .opened
      flags := { noFlags with
        preShort := parts.any fun p => decide (p.preCount < profile.preCount)
        isPartial := leavesOut profile.mask s }
      source := t.source
      time := t.time
      sample := t.sample
      closeTime := none
      requestedPre := profile.preCount
      requestedPost := profile.postCount
      parts := parts
      retriggers := [] }
  ({ u with
      records := u.records ++ [record]
      nextRecord := numberAfter number
      openRecord := put u.openRecord t.profile (some number)
      pins := { u.pins with trigOut := some trigOutPulse } },
    .opened number)

/-- The discard candidate: the first SEALED record with READ in table order (R31). -/
def discardCandidate (s : State) : Option CaptureRecord :=
  s.records.find? fun r => decide (r.state = .closed) && r.flags.read

/-- A record is discarded under the table-full policy: removed, counted, and RECORD_DISCARDED raised (R31). -/
def discardRecord (n : Nat) (s : State) : State :=
  raiseNotice (.recordDiscarded n) (countUp .recordDiscarded (removeRecord n s))

/-- Step 3, table full, and then step 4 (R30). -/
def openWithRoom (t : Trigger) (s : State) : State × TriggerOutcome :=
  if s.records.length < recordTotal then openRecordFor t s
  else
    match s.settings.policy with
    | .refuseNew => (countUp .captureLostFull s, .lost .full)
    | .discardOldestRead =>
      match discardCandidate s with
      | some r => openRecordFor t (discardRecord r.number s)
      | none => (countUp .captureLostFull s, .lost .full)

/-- The decision at a trigger taken while RUNNING, in the run in which it was sent: steps 1 to 4 (R27 to R32). -/
def decideTrigger (t : Trigger) (s : State) : State × TriggerOutcome :=
  match s.openRecord[t.profile] with
  | some n => (changeRecord n (retriggered s.profiles[t.profile] t) s, .retriggered n)
  | none =>
    if (includedStreams s.profiles[t.profile].mask s).isEmpty then
      (countUp .captureLostOverlap s, .lost .overlap)
    else openWithRoom t s

/-- The record number of an outcome: none for LOST (R76). -/
def outcomeRecord : TriggerOutcome → Option Nat
  | .opened n => some n
  | .retriggered n => some n
  | .lost _ => none

/-- The alarm request of a trigger, made with its outcome when the alarm flag was on at the firing (R25, R76). -/
def requestAlarm (t : Trigger) (outcome : TriggerOutcome) (s : State) : State :=
  if t.alarm then
    { s with alarmRequests := s.alarmRequests ++
        [{ source := t.source, time := t.time, value := t.sample.map fun x => x.value,
           record := outcomeRecord outcome }] }
  else s

/-- The Capture Manager takes a trigger: LOST (STOPPED) outside RUNNING and for a trigger of an earlier run (R26),
otherwise the decision; then the outcome goes back to the source (R25). -/
def takeTrigger (t : Trigger) (s : State) : State :=
  if decide (s.acquisition = .running) && !t.earlierRun then
    let (u, outcome) := decideTrigger t s
    requestAlarm t outcome u
  else requestAlarm t (.lost .stopped) s

/-! ## The readout source (R61 to R67) -/

/-- The resume offset of a readout that ends (R66): the current offset; for a link reset with this readout's chunk in
transmission, the offset of the chunk's first data byte. -/
def resumeOffset (reason : ReadoutEnd) (s : State) : Nat :=
  match reason, s.transmit.bulk with
  | .linkReset, some chunk => if chunk.ofReadout then chunk.offset else s.readout.offset
  | _, _ => s.readout.offset

/-- The chunk in the buffer no longer belongs to the readout in the source (R64). -/
def disownChunk (s : State) : State :=
  { s with transmit := { s.transmit with bulk := s.transmit.bulk.map fun c => { c with ofReadout := false } } }

/-- The record of the readout returns to SEALED and the source becomes IDLE (R64, R65, R67). -/
def releaseReadout (s : State) : State :=
  { changeRecord s.readout.record (fun r => { r with state := .closed }) s with readout := resetReadout }

/-- A readout ends early: the record is SEALED without READ from it, the source is IDLE and READOUT_ENDED is raised
(R65, R66). The chunk already begun is sent whole, but is no longer the readout's. -/
def endReadout (reason : ReadoutEnd) (s : State) : State :=
  raiseNotice (.readoutEnded s.readout.record reason (resumeOffset reason s)) (disownChunk (releaseReadout s))

/-- BULK_LAST has been sent whole for the FINISHING readout: READ is set and the source becomes IDLE (R64). -/
def completeReadout (s : State) : State :=
  releaseReadout (changeFlags s.readout.record (fun f => { f with read := true }) s)

/-- The next chunk is built (R63): up to 236 image bytes from the current offset; BULK_LAST at the end of the image. -/
def buildChunk (s : State) : Option (BulkChunk × State) :=
  match s.readout.state, findRecord s.readout.record s with
  | .active, some r =>
    let d := min chunkData (s.readout.length - s.readout.offset)
    let next := s.readout.offset + d
    let last := decide (next = s.readout.length)
    some
      ({ frame := chunkFrame last s.readout.tag s.readout.record s.readout.offset
            (((recordImage r).drop s.readout.offset).take d)
         offset := s.readout.offset
         last := last
         ofReadout := true },
       { s with readout := { s.readout with offset := next, state := if last then .finishing else .active } })
  | _, _ => none

end Sys2Proof.Machine
end

