-- ==== Sys2Proof/Machine/Alarm.lean ====
section
/-! DEFINITION. The Alarm Unit: the alarm list, reports, acknowledgement and giving up (chapter 8). -/

namespace Sys2Proof.Machine

/-- Whether an id is held by an entry of the list. -/
def idInUse (alarms : List AlarmEntry) (id : Byte) : Bool := alarms.any fun e => e.id == id

/-- The ids tried, in turn, 255 being followed by 0 (R135). -/
def idsFrom : Nat → Byte → List Byte
  | 0, _ => []
  | count + 1, id => id :: idsFrom count (id + 1)

/-- The id of a new entry: the next alarm id, passing over those in the list (R135). -/
def freshAlarmId (s : State) : Byte :=
  ((idsFrom (alarmTotal + 1) s.nextAlarm).find? fun id => !idInUse s.alarms id).getD s.nextAlarm

/-- Dropped requests added to the drop count, which stays at 255 (R136). -/
def addDrops (n : Nat) (s : State) : State := { s with dropCount := min dropMaximum (s.dropCount + n) }

/-- The Alarm Unit takes an alarm request: a PENDING entry with a fresh id, or a drop when the list holds 8 (R135, R136). -/
def takeAlarmRequest (r : AlarmRequest) (s : State) : State :=
  if s.alarms.length < alarmTotal then
    { s with
      alarms := s.alarms ++
        [{ id := freshAlarmId s, source := r.source, time := r.time, value := r.value, record := r.record,
           sendCount := 0, state := .pending }]
      nextAlarm := freshAlarmId s + 1 }
  else addDrops 1 (countUp .alarmDropped s)

/-- An entry of the list changed. -/
def changeAlarm (id : Byte) (f : AlarmEntry → AlarmEntry) (s : State) : State :=
  { s with alarms := changeFirst (fun e => e.id == id) f s.alarms }

/-- The entry with an id. -/
def findAlarm (id : Byte) (s : State) : Option AlarmEntry := s.alarms.find? fun e => e.id == id

/-- An entry removed from the list. -/
def removeAlarm (id : Byte) (s : State) : State := { s with alarms := s.alarms.filter fun e => !(e.id == id) }

/-- Whether an entry is PENDING. -/
def isPending (e : AlarmEntry) : Bool := decide (e.state = .pending)

/-- The oldest PENDING entry moves into a free place of the URGENT queue: its report is built with the drop count, which
becomes 0, and the entry is QUEUED (R136, R137). -/
def moveOldestPending (s : State) : State :=
  if s.transmit.urgent.length < urgentTotal then
    match s.alarms.find? isPending with
    | some e =>
      { s with
        transmit := { s.transmit with urgent := s.transmit.urgent ++ [alarmReportFrame e s.dropCount] }
        dropCount := 0
        alarms := changeFirst isPending (fun x => { x with state := .queued }) s.alarms }
    | none => s
  else s

/-- PENDING entries move while the URGENT queue has a free place: at most 4 moves (R137). -/
def movePending (s : State) : State :=
  moveOldestPending (moveOldestPending (moveOldestPending (moveOldestPending s)))

/-- The drop count that a frame carries, when it is an alarm report (R136). -/
def carriedDrops (f : Frame) : Nat :=
  match f.kind with
  | .alarmReport _ drop _ => drop
  | .reply => 0
  | .restartReply => 0
  | .notice => 0
  | .chunk => 0

/-- Whether a frame is the report of the entry with an id. -/
def reportsAlarm (id : Byte) (f : Frame) : Bool :=
  match f.kind with
  | .alarmReport i _ owned => i == id && owned
  | .reply => false
  | .restartReply => false
  | .notice => false
  | .chunk => false

/-- An alarm report whose entry is gone (R138, R141). -/
def disownReport (id : Byte) (f : Frame) : Frame :=
  match f.kind with
  | .alarmReport i drop owned => { f with kind := .alarmReport i drop (owned && !(i == id)) }
  | .reply => f
  | .restartReply => f
  | .notice => f
  | .chunk => f

/-- A queued report is withdrawn and its drop count is added back (R136, R141, R171). -/
def withdrawReport (id : Byte) (s : State) : State :=
  addDrops ((s.transmit.urgent.filter (reportsAlarm id)).map carriedDrops).sum
    { s with transmit := { s.transmit with urgent := s.transmit.urgent.filter fun f => !reportsAlarm id f } }

/-- The report in transmission, if it is the entry's, completes unheeded (R138, R141). -/
def orphanReport (id : Byte) (s : State) : State :=
  { s with transmit := { s.transmit with
      sending := s.transmit.sending.map fun t => { t with frame := disownReport id t.frame } } }

/-- An acknowledgement removes its entry in every state: a queued report is withdrawn, a report in transmission is sent
on unheeded, and a timer stops with the entry (R141). -/
def acknowledge (id : Byte) (s : State) : State := removeAlarm id (orphanReport id (withdrawReport id s))

/-- An alarm report has been sent whole: its QUEUED entry raises its send count and is WAITING for 200 ms (R138). -/
def reportSent (id : Byte) (s : State) : State :=
  changeAlarm id
    (fun e => if e.state = .queued then { e with sendCount := e.sendCount + 1, state := .waiting acknowledgementTime }
      else e) s

/-- The acknowledgement timer of a WAITING entry expires: resent below 3 sends, given up otherwise (R139, R140). -/
def expireAcknowledgement (e : AlarmEntry) (s : State) : State :=
  if e.sendCount < sendTotal then changeAlarm e.id (fun x => { x with state := .pending }) s
  else
    countUp .alarmUndelivered (raiseNotice (.alarmLost e.id e.source e.time e.record) (removeAlarm e.id s))

/-- A link reset makes every QUEUED entry PENDING again; WAITING and PENDING entries stay (R143). -/
def requeueAlarm (e : AlarmEntry) : AlarmEntry :=
  { e with state :=
      match e.state with
      | .queued => .pending
      | .pending => .pending
      | .waiting remaining => .waiting remaining }

end Sys2Proof.Machine
end

