-- ==== Sys2Proof/Machine/Resets.lean ====
section
/-! DEFINITION. Power-on reset, pin reset and restart: every block back to its reset value (00_scope.md Kinds of reset,
R146, R153, R221, R222). -/

namespace Sys2Proof.Machine

/-- A strap read: held at neither level it gives 0 (R223). -/
def strapBit : StrapLevel → Nat
  | .low => 0
  | .high => 1
  | .undriven => 0

/-- The link rate that RATE1 and RATE0 select (R153). -/
def strappedRate (pins : PinLevels) : Fin 4 := Fin.ofNat 4 (2 * strapBit pins.rate1 + strapBit pins.rate0)

/-- Every block at its reset value, and nothing held or awaited. The queue of commands and the model's count of free
values drawn are no block's state and stay. -/
def resetBlocks (s : State) : State := { State.reset with pending := s.pending, draws := s.draws }

/-- A reset ends: the straps are sampled (R153), the pin levels become the accepted ones without an edge (R222), the
Timebase counts from 0 and RESTARTED with the cause is queued (R146). -/
def endReset (cause : RestartCause) (pins : PinLevels) (s : State) : State :=
  raiseNotice (.restarted cause)
    { resetBlocks s with
      pins := { convIn := pins.convIn, trigIn := pins.trigIn, trigOut := none }
      transmit := resetTransmit (strappedRate pins) }

/-- A pin reset takes effect: the blocks hold their reset values until RESET is high again (R221). -/
def enterReset (s : State) : State := { resetBlocks s with resetting := { pinLow := true, held := true, awaited := none } }

end Sys2Proof.Machine
end

