-- ==== Sys2Proof/Machine/Transmit.lean ====
section
/-! DEFINITION. The Transmit Unit: choice, suspension, completion and ABORT (chapter 10). -/

namespace Sys2Proof.Machine

/-! ## The line -/

/-- A character goes on TXD; its stop bit ends one character time later (R153). -/
def sendCharacter (c : Byte) (s : State) : State :=
  { s with transmit := { s.transmit with line := some c, lineTime := characterTime s.transmit.rate } }

/-- The level of a bit on a line: 1 is high. -/
def bitLevel (bit : Bool) : Level := if bit then .high else .low

/-- A character on a line: a start bit (low), eight data bits least significant first, a stop bit (high) (R153). -/
def lineBits (c : Byte) : List Level :=
  .low :: (List.range 8).map (fun i => bitLevel (c.getLsbD i)) ++ [.high]

/-- Which of the ten bits of the character on the line is being sent, by the time since its start bit began (R153). -/
def bitBeingSent (t : TransmitUnit) : Nat :=
  (characterTime t.rate - t.lineTime) * 10 / characterTime t.rate

/-- The level of TXD: the bit being sent of the character on the line, and high between characters, on an idle line and
while a reset is held (R153, R223). -/
def txdLevel (s : State) : Level :=
  match s.transmit.line with
  | some c => (lineBits c).getD (bitBeingSent s.transmit) .high
  | none => .high

/-- TXD idles high (R223). -/
def idleLine (s : State) : State := { s with transmit := { s.transmit with line := none, lineTime := 0 } }

/-- Whether a frame is in transmission: being sent, or suspended (R174). -/
def inTransmission (s : State) : Bool := s.transmit.sending.isSome || !s.transmit.suspended.isEmpty

/-- The class that a frame must outrank to be started: that of the frame on top of the suspension stack (R176). -/
def outranksStack (c : FrameClass) (s : State) : Bool :=
  match s.transmit.suspended with
  | [] => true
  | t :: _ => decide (classRank (frameClass t.frame) < classRank c)

/-! ## Starting frames (R171 to R173, R176) -/

/-- A frame's OPEN is sent; its content characters follow (R173). -/
def startFrame (f : Frame) (s : State) : State :=
  sendCharacter charOpen
    { s with transmit := { s.transmit with sending := some { frame := f, unsent := (frameCharacters f).tail } } }

/-- RESUME: the frame on top of the stack becomes the frame being sent (R176). -/
def resumeTop (t : Transmission) (rest : List Transmission) (s : State) : State :=
  sendCharacter charResume { s with transmit := { s.transmit with sending := some t, suspended := rest } }

/-- Ready for a BULK frame: nothing in transmission and the buffer empty (R172); the choice has found both queues
empty. The chunk is built and begun, or the line stays idle. -/
def startChunk (s : State) : State :=
  if s.transmit.bulk.isNone then
    match buildChunk s with
    | some (chunk, t) => startFrame chunk.frame { t with transmit := { t.transmit with bulk := some chunk } }
    | none => idleLine s
  else idleLine s

/-- No frame of a higher class than the suspended one is pending: RESUME, or on an empty stack a bulk chunk or nothing
(R173, R176). -/
def startLower (s : State) : State :=
  match s.transmit.suspended with
  | t :: rest => resumeTop t rest s
  | [] => startChunk s

/-- The choice: URGENT, then NORMAL, when it outranks the stack; the frame leaves the head of its queue (R171, R173,
R176). -/
def chooseFrame (s : State) : State :=
  match s.transmit.urgent, s.transmit.normal with
  | f :: rest, _ =>
    if outranksStack .urgent s then startFrame f { s with transmit := { s.transmit with urgent := rest } }
    else startLower s
  | [], g :: rest =>
    if outranksStack .normal s then startFrame g { s with transmit := { s.transmit with normal := rest } }
    else startLower s
  | [], [] => startLower s

/-! ## Suspension (R175) -/

/-- Whether a frame of a class higher than one is pending (R175). -/
def higherPending (c : FrameClass) (s : State) : Bool :=
  match c with
  | .urgent => false
  | .normal => !s.transmit.urgent.isEmpty
  | .bulk => !s.transmit.urgent.isEmpty || !s.transmit.normal.isEmpty

/-- SUSPEND: the frame being sent is pushed onto the stack with the point it has reached (R175). -/
def suspendFrame (t : Transmission) (s : State) : State :=
  sendCharacter charSuspend
    { s with transmit := { s.transmit with sending := none, suspended := t :: s.transmit.suspended } }

/-! ## ABORT (R179) -/

/-- What an abort still sends after the character on the line: the follower of an ESCAPE, then ABORT. -/
def abortTail (s : State) : List Byte :=
  if s.transmit.line = some charEscape then
    ((s.transmit.sending.map fun t => t.unsent.take 1).getD []) ++ [charAbort]
  else [charAbort]

/-- Whether an ABORT is on the line or still to be sent. -/
def aborting (s : State) : Bool := !s.transmit.tail.isEmpty || decide (s.transmit.line = some charAbort)

/-- The Transmit Unit is told to abort: the character on the line is completed, an escape's follower is sent, and ABORT
follows (R179). An abort under way goes on. -/
def tellAbort (s : State) : State :=
  if aborting s then s else { s with transmit := { s.transmit with tail := abortTail s } }

/-- Every frame in transmission is ended without completion, and the bulk frame buffer is emptied (R179). -/
def endFrames (s : State) : State :=
  { s with transmit := { s.transmit with sending := none, suspended := [], bulk := none } }

/-! ## Completion (R174) -/

/-- The bulk frame buffer is emptied (R172). -/
def emptyBuffer (s : State) : State := { s with transmit := { s.transmit with bulk := none } }

/-- A chunk's last character has been sent: a BULK_LAST of the FINISHING readout completes it (R64, R172). -/
def chunkSent (s : State) : State :=
  match s.transmit.bulk with
  | some chunk =>
    if chunk.last && chunk.ofReadout && decide (s.readout.state = .finishing) then completeReadout (emptyBuffer s)
    else emptyBuffer s
  | none => s

/-- The completion of a frame is handed to its owner (R174); no frame is then being sent. -/
def completeFrame (f : Frame) (s : State) : State :=
  let t := { s with transmit := { s.transmit with sending := none } }
  match f.kind with
  | .alarmReport id _ owned => if owned then reportSent id t else t
  | .chunk => chunkSent t
  | .reply => t
  | .restartReply => t
  | .notice => t

/-- The Restart's reply has been sent: the restart takes place, after an ABORT when a frame is suspended (R181). -/
def restartAfterReply (pins : PinLevels) (s : State) : State :=
  if s.transmit.suspended.isEmpty then endReset .request pins s
  else sendCharacter charAbort { s with resetting := { s.resetting with awaited := some .restart } }

/-- The last character of a frame has been sent (R174). -/
def finishFrame (f : Frame) (pins : PinLevels) (s : State) : State :=
  match f.kind with
  | .restartReply => restartAfterReply pins (completeFrame f s)
  | .alarmReport _ _ _ => chooseFrame (completeFrame f s)
  | .chunk => chooseFrame (completeFrame f s)
  | .reply => chooseFrame (completeFrame f s)
  | .notice => chooseFrame (completeFrame f s)

/-- The stop bit of ABORT has ended: the reset that waited takes effect (R181, R221), or the unit chooses anew (R180). A
pin reset whose RESET has already risen ends at once (R221). -/
def abortSent (pins : PinLevels) (s : State) : State :=
  match s.resetting.awaited with
  | some .pin => if s.resetting.pinLow then enterReset s else endReset .pin pins s
  | some .restart => endReset .request pins s
  | none => chooseFrame s

/-- The next step of the frame being sent: its next character, or SUSPEND when a higher frame is pending and the
character just sent is no ESCAPE (R175). -/
def continueFrame (just : Byte) (t : Transmission) (next : Byte) (rest : List Byte) (s : State) : State :=
  if !(just == charEscape) && higherPending (frameClass t.frame) s then suspendFrame t s
  else sendCharacter next { s with transmit := { s.transmit with sending := some { t with unsent := rest } } }

/-- A character boundary: the stop bit of the character on the line has ended (R173). -/
def characterBoundary (just : Byte) (pins : PinLevels) (s : State) : State :=
  match s.transmit.tail with
  | c :: rest => sendCharacter c { s with transmit := { s.transmit with tail := rest } }
  | [] =>
    if just = charAbort then abortSent pins s
    else
      match s.transmit.sending with
      | some t =>
        match t.unsent with
        | next :: rest => continueFrame just t next rest s
        | [] => finishFrame t.frame pins s
      | none => chooseFrame s

/-- On an idle line the unit decides at once whenever a frame is pending (R173), unless a reset is awaited (R181). -/
def decideIdle (s : State) : State :=
  if s.transmit.line.isNone && s.resetting.awaited.isNone then chooseFrame s else s

end Sys2Proof.Machine
end

