-- ==== Sys2Proof/Machine/EventEnd.lean ====
section
/-! DEFINITION. What follows at the end of every event: the Alarm Unit's move, the choice on an idle line and the
Dispatcher's take (R137, R173, R183). -/

namespace Sys2Proof.Machine

/-- The Dispatcher takes the oldest request when it is FREE and the NORMAL queue has a free place (R183); the requests left
behind it are counted (R165). -/
def takeRequest (s : State) : State :=
  match s.dispatcher.state, s.inbound with
  | .free, r :: rest =>
    if s.transmit.normal.length < normalTotal then
      { s with dispatcher := { s.dispatcher with state := .executing r, behind := rest.length }, inbound := rest }
    else s
  | _, _ => s

/-- What follows at the end of every event: PENDING alarm entries move while a place is free (R137), an idle line starts
a frame (R173), and the Dispatcher takes a request when it can (R183). DEDUCED, logs 11 to 13. -/
def conclude (s : State) : State := takeRequest (movePending (decideIdle (movePending s)))

end Sys2Proof.Machine
end

