-- ==== Sys2Proof/Config.lean ====
section
/-! DEFINITION. What the manual leaves free: constants with no body, so that no proof can rest on a value. -/

namespace Sys2Proof.Config

/-- R224 gives the raw code in steps and states no rounding for an input level between two steps: whether the n-th such
conversion takes the upper of the two neighbouring codes. A FREE VALUE (DESIGN CHOICE, log 6). -/
opaque conversionRoundsUp : Nat → Bool

end Sys2Proof.Config
end

