-- ==== Sys2Proof/Machine/Filter.lean ====
section
/-! DEFINITION. The Filter Bank: priming, raw samples, accumulation, saturation, bypass (chapter 6). -/

namespace Sys2Proof.Machine

/-- A filter's working state replaced. -/
def setFilter (k : Fin 16) (f : FilterState) (s : State) : State := { s with filters := put s.filters k f }

/-- T of a stream: the taps of its named set, 0 for a bypass stream (R111, R112). -/
def tapsOf (k : Fin 16) (s : State) : Nat :=
  match s.streams[k].filter with
  | .bypass => 0
  | .coefficients set => s.coefficients[set].coefficients.length

/-- Priming: the delay line is filled with zeros to depth T, count and index are 0 (R112). -/
def primed (taps : Nat) : FilterState := { delayLine := List.replicate taps 0, count := 0, index := 0, due := none }

/-- Every enabled stream is primed; the others are left as they stand (R112). -/
def primeFilters (s : State) : State :=
  allStreams.foldl (fun t k => if t.streams[k].enabled then setFilter k (primed (tapsOf k t)) t else t) s

/-- A raw sample at the front of a delay line of fixed depth (R113). -/
def shiftIn (x : Int) (line : List Int) : List Int := (x :: line).take line.length

/-- A raw sample is taken: into the delay line, and the decimation count rises; when it is D an output is due (R113). -/
def takeRaw (decimation : Nat) (raw : RawSample) (f : FilterState) : FilterState :=
  { f with
    delayLine := shiftIn raw.value f.delayLine
    count := f.count + 1
    due := if f.count + 1 = decimation then some raw else f.due }

/-- The accumulator: the exact sum of ci * x[n-i] (R114). -/
def accumulate (coefficients : List Sample) (line : List Int) : Int :=
  (List.zipWith (fun (c : Sample) (x : Int) => c.toInt * x) coefficients line).sum

/-- floor(accumulator / 2^shift) (R114). -/
def shiftedOutput (set : CoefficientSet) (line : List Int) : Int :=
  accumulate set.coefficients line / (2 ^ set.shift : Nat)

/-- The output clamped to -32768 to 32767 (R115). -/
def saturated (y : Int) : Sample := BitVec.ofInt 16 (max (-32768) (min 32767 y))

/-- Whether a shifted value is saturated (R115). -/
def saturates (y : Int) : Bool := decide (y < -32768 ∨ 32767 < y)

/-- The value of a stream's output before saturation: the shifted accumulator (R114), or 16 x for a bypass stream (R116). -/
def outputValue (k : Fin 16) (raw : RawSample) (s : State) : Int :=
  match s.streams[k].filter with
  | .bypass => 16 * raw.value
  | .coefficients set => shiftedOutput s.coefficients[set] s.filters[k].delayLine

/-- The filtered sample that a due output makes (R117). -/
def filteredSample (k : Fin 16) (raw : RawSample) (s : State) : FilteredSample :=
  { stream := k, value := saturated (outputValue k raw s), index := s.filters[k].index, time := raw.start }

/-- The output is made: the count returns to 0 and the sample index rises (R113, R117); a saturated one is counted
(R115). -/
def makeOutput (k : Fin 16) (raw : RawSample) (s : State) : State :=
  let t := setFilter k { s.filters[k] with count := 0, index := s.filters[k].index + 1, due := none } s
  if saturates (outputValue k raw s) then countUp .filterSaturation t else t

end Sys2Proof.Machine
end

