-- ==== Sys2Proof/Machine/WatchUnit.lean ====
section
/-! DEFINITION. The Watch Unit: judgement, firing, arming and disarming of the watches and the external trigger
(chapter 4). -/

namespace Sys2Proof.Machine

/-! ## Conditions (R71, R78) -/

/-- |x - previous|, taken exactly (R71). -/
def stepSize (x previous : Sample) : Int := |x.toInt - previous.toInt|

/-- The firing condition; `none` when it is not judged: STEP with no previous sample (R71). -/
def qualifies (d : WatchDefinition) (previous : Option Sample) (x : Sample) : Option Bool :=
  match d.kind with
  | .above => some (decide (x.toInt > d.high.toInt))
  | .below => some (decide (x.toInt < d.low.toInt))
  | .outside => some (decide (x.toInt > d.high.toInt ∨ x.toInt < d.low.toInt))
  | .step => previous.map fun p => decide (stepSize x p > d.high.toInt)

/-- The re-arm condition, its bounds taken exactly (R78). -/
def rearms (d : WatchDefinition) (previous : Option Sample) (x : Sample) : Bool :=
  match d.kind with
  | .above => decide (x.toInt ≤ d.high.toInt - d.hysteresis)
  | .below => decide (x.toInt ≥ d.low.toInt + d.hysteresis)
  | .outside => decide (x.toInt ≤ d.high.toInt - d.hysteresis ∧ x.toInt ≥ d.low.toInt + d.hysteresis)
  | .step =>
    match previous with
    | some p => decide (stepSize x p ≤ d.high.toInt - d.hysteresis)
    | none => false

/-! ## Judgement (R72 to R74, R77, R78) -/

/-- A qualifying sample: the count rises; at q the watch's firing is due, otherwise it is QUALIFYING (R73, R74). -/
def countQualifying (x : FilteredSample) (w : Watch) : Watch :=
  if w.qualifyCount + 1 < w.definition.qualify then
    { w with state := .qualifying, qualifyCount := w.qualifyCount + 1 }
  else { w with qualifyCount := w.qualifyCount + 1, firing := some x }

/-- What a watch does with a sample in its state, before the sample becomes its previous one. -/
def judged (x : FilteredSample) (w : Watch) : Watch :=
  match w.state with
  | .disarmed => w
  | .armed => if qualifies w.definition w.previous x.value = some true then countQualifying x w else w
  | .qualifying =>
    if qualifies w.definition w.previous x.value = some true then countQualifying x w
    else { w with state := .armed, qualifyCount := 0 }
  | .holdoff => { w with holdoffCount := w.holdoffCount - 1 }
  | .rearmWait => if rearms w.definition w.previous x.value then { w with state := .armed } else w

/-- A watch judges a sample of its stream; a DISARMED watch takes no action (R72). -/
def judge (x : FilteredSample) (w : Watch) : Watch :=
  if decide (w.state = .disarmed) || !(w.definition.stream == x.stream) then w
  else { judged x w with previous := some x.value }

/-- The evaluation stage of a delivery (R8, R72). -/
def evaluate (x : FilteredSample) (s : State) : State := { s with watches := s.watches.map (judge x) }

/-! ## Firing (R75, R76, R86) -/

/-- A watch replaced. -/
def setWatch (w : Fin 8) (x : Watch) (s : State) : State := { s with watches := put s.watches w x }

/-- The state a watch moves to on firing (R75). -/
def afterFiring (w : Watch) : Watch :=
  { w with
    qualifyCount := 0
    firing := none
    state := if w.definition.oneShot then .disarmed else if w.definition.holdoff = 0 then .rearmWait else .holdoff
    holdoffCount :=
      if w.definition.oneShot || decide (w.definition.holdoff = 0) then w.holdoffCount else w.definition.holdoff }

/-- What a firing sends: a trigger when a profile is named, which carries the alarm flag (R75, R76, R86); with profile
NONE, the alarm request at once when the alarm flag is on. -/
def sendFiring (profile : Option (Fin 4)) (alarm : Bool) (source : TriggerSource) (time : Time)
    (sample : Option TriggerSample) (s : State) : State :=
  match profile with
  | some p =>
    { s with triggers := s.triggers ++
        [{ profile := p, source := source, time := time, sample := sample, alarm := alarm, earlierRun := false }] }
  | none =>
    if alarm then
      { s with alarmRequests := s.alarmRequests ++
          [{ source := source, time := time, value := sample.map fun x => x.value, record := none }] }
    else s

/-- A watch whose firing is due fires (R75). -/
def fireWatch (w : Fin 8) (s : State) : State :=
  match s.watches[w].firing with
  | none => s
  | some x =>
    setWatch w (afterFiring s.watches[w])
      (sendFiring s.watches[w].definition.profile s.watches[w].definition.alarm (.watch w) x.time
        (some { stream := x.stream, index := x.index, value := x.value }) s)

/-- Whether a HOLDOFF watch's count has reached 0: WATCH_HOLDOFF_END is due (R77). -/
def holdoffEndDue (w : Fin 8) (s : State) : Bool :=
  decide (s.watches[w].state = .holdoff) && decide (s.watches[w].holdoffCount = 0)

/-- A HOLDOFF watch whose count has reached 0 enters REARM_WAIT (R77). -/
def endHoldoff (w : Fin 8) (s : State) : State :=
  if holdoffEndDue w s then setWatch w { s.watches[w] with state := .rearmWait } s else s

/-- The firings and holdoff ends that are due are taken (log 1). -/
def settleWatches (s : State) : State := allWatches.foldl (fun t w => fireWatch w (endHoldoff w t)) s

/-! ## Arming and disarming (R79 to R82, R88) -/

/-- A watch with fresh working values in a given state (R79, R80, R82). -/
def freshWatch (d : WatchDefinition) (state : WatchState) : Watch :=
  { definition := d, state := state, qualifyCount := 0, holdoffCount := 0, previous := none, firing := none }

/-- Start arms an enabled watch; one that is not enabled stays DISARMED (R80). -/
def armWatch (w : Watch) : Watch := if w.definition.enabled then freshWatch w.definition .armed else w

/-- Start arms the external trigger when it is enabled (R88). -/
def armExternal (e : ExternalTrigger) : ExternalTrigger :=
  { e with state := if e.definition.enabled then .armed else .disarmed }

/-- Start arms the watches and the external trigger (R80, R88). -/
def armAll (s : State) : State := { s with watches := s.watches.map armWatch, external := armExternal s.external }

/-- Every watch and the external trigger are disarmed, counts and timer cleared (R81, R88). -/
def disarmAll (s : State) : State :=
  { s with
    watches := s.watches.map fun w => freshWatch w.definition .disarmed
    external := { s.external with state := .disarmed } }

/-- The external trigger fires at an edge: it sends its trigger or alarm request and enters HOLDOFF; a holdoff of 0
expires as soon as it starts (R86, R87). -/
def fireExternal (s : State) : State :=
  let d := s.external.definition
  let t := sendFiring d.profile d.alarm .external s.clock.timebase none s
  { t with external := { t.external with
      state := if d.holdoff = 0 then .armed else .holdoff (microseconds d.holdoff) } }

end Sys2Proof.Machine
end

