-- ==== Sys2Proof/Machine/Rounds.lean ====
section
/-! DEFINITION. Conversion rounds: slots, times, raw codes and start events (chapter 5, R224). -/

namespace Sys2Proof.Machine

/-- The streams a round converts: enabled, with a slot, ascending (R91). -/
def convertedStreams (s : State) : List (Fin 16) :=
  allStreams.filter fun k => s.streams[k].enabled && decide (k.val < s.scan.length)

/-- The conversion time of a slot, 4 + 2e us (R91). -/
def slotMicroseconds (slot : Slot) : Nat := 4 + 2 * slot.settle.val

/-- The round time in microseconds (R91). -/
def roundMicroseconds (s : State) : Nat := ((convertedStreams s).map fun k => slotMicroseconds (slotOf k s)).sum

/-- The conversion time of a stream's slot in clock units. -/
def conversionTime (k : Fin 16) (s : State) : Nat := microseconds (slotMicroseconds (slotOf k s))

/-- The converted slot after one (R96). -/
def slotAfter (k : Fin 16) (s : State) : Option (Fin 16) := (convertedStreams s).find? fun j => decide (k < j)

/-- A round begins: its start time is the Timebase value, and its first conversion begins (R95). -/
def beginRound (s : State) : State :=
  match (convertedStreams s).head? with
  | some k => { s with round := .inRound s.clock.timebase k (conversionTime k s) }
  | none => s

/-- Whether rounds can begin: RUNNING or DRAINING (R95). -/
def acquiring (s : State) : Bool := !decide (s.acquisition = .idle)

/-- A start event of the selected source: it begins a round, or counts an overrun during one (R95, R97). -/
def startEvent (s : State) : State :=
  match s.round with
  | .noRound => beginRound s
  | .inRound _ _ _ => countUp .roundOverrun s

/-- G of a gain code (R90). -/
def gainFactor (g : Fin 4) : Nat := 2 ^ g.val

/-- An input's offset from the 2.5 V midpoint times G, in microvolts (R224). -/
def amplified (gain : Fin 4) (level : Nat) : Int := ((level : Int) - 2500000) * (gainFactor gain : Nat)

/-- A code clipped to 0 to 4095 (R92, R224). -/
def clipCode (code : Int) : Int := max 0 (min 4095 code)

/-- Whether an input level falls between two steps of 1 mV, for which R224 gives no rounding (log 6). -/
def betweenSteps (gain : Fin 4) (level : Nat) : Bool := !decide (amplified gain level % 1000 = 0)

/-- The raw code: 2048 plus the amplified offset in steps of 1 mV, clipped (R224). Between two steps the free value
`roundUp` says which of the two neighbouring codes it is. -/
def rawCode (gain : Fin 4) (level : Nat) (roundUp : Bool) : Int :=
  clipCode (2048 + amplified gain level / 1000 + (if betweenSteps gain level then (if roundUp then 1 else 0) else 0))

/-- The signed sample of a raw code (R93): inverted code 0 gives 2047. -/
def signedSample (polarity : Polarity) (code : Int) : Int :=
  match polarity with
  | .normal => code - 2048
  | .inverted => min 2047 (-(code - 2048))

/-- The raw sample of a completed conversion (R93). -/
def convertedSample (slot : Slot) (level : Nat) (roundUp : Bool) : Int :=
  signedSample slot.polarity (rawCode slot.gain level roundUp)

/-- A free value is drawn when a conversion needs one (log 6). -/
def drawRounding (slot : Slot) (level : Nat) (s : State) : State :=
  if betweenSteps slot.gain level then { s with draws := s.draws + 1 } else s

/-- The round after a slot's conversion: the next conversion begins at the completion, or the round ends (R91, R96). -/
def roundAfter (start : Time) (k : Fin 16) (overdue : Int) (s : State) : RoundState :=
  match slotAfter k s with
  | some j => .inRound start j ((conversionTime j s : Int) + overdue)
  | none => .noRound

/-- A slot's conversion completes: its raw sample goes to the Filter Bank, and the round goes on or ends (R93, R96). -/
def completeConversion (start : Time) (k : Fin 16) (overdue : Int) (level : Nat) (s : State) : State :=
  let slot := slotOf k s
  let raw : RawSample := { value := convertedSample slot level (Config.conversionRoundsUp s.draws), start := start }
  let t := setFilter k (takeRaw s.streams[k].decimation raw s.filters[k]) (drawRounding slot level s)
  { t with round := roundAfter start k overdue s }

end Sys2Proof.Machine
end

