-- ==== Sys2Proof/Machine/Acquisition.lean ====
section
/-! DEFINITION. The delivery of filtered samples, the arrival at IDLE, and the steps that are taken at once (R8, R119,
R127 to R131; log 1, log 14). -/

namespace Sys2Proof.Machine

/-! ## Delivery (R8, R117) -/

/-- The store stage of a delivery, by the stream's sink (R8). -/
def storeStage (x : FilteredSample) (s : State) : State :=
  match s.sinks[x.stream] with
  | .ring => ringStore x.stream x.value s
  | .capture n => captureStore n x.stream x.value s
  | .none => s

/-- Whether a trigger on its way comes from a watch on a stream (R75). -/
def ofStream (k : Fin 16) (t : Trigger) : Bool :=
  match t.sample with
  | some x => x.stream == k
  | none => false

/-- The Capture Manager takes the triggers of a stream's watches before the store stage of the stream's next delivery
(R75), each an event of its own with what follows it (R84, R173; log 12). R84 lets several of them be taken in either order;
those that no TRIGGER has taken before are taken here in the order in which they were sent (DESIGN CHOICE, log 15). -/
def takeStreamTriggers (k : Fin 16) (s : State) : State :=
  (s.triggers.filter (ofStream k)).foldl (fun t x => conclude (takeTrigger x t))
    { s with triggers := s.triggers.filter fun x => !ofStream k x }

/-- Whether a stream's output is due, with the raw sample that makes it (R113). -/
def outputDue (k : Fin 16) (s : State) : Option RawSample := s.filters[k].due

/-- The part of a delivery up to its store stage: the triggers it must follow, the output and the store (R75, R8). -/
def storeOutput (k : Fin 16) (raw : RawSample) (s : State) : State :=
  let t := takeStreamTriggers k s
  storeStage (filteredSample k raw t) (makeOutput k raw t)

/-- A due output is made and delivered: store stage, then evaluation stage (R8, R113, R117). -/
def deliver (k : Fin 16) (s : State) : State :=
  match outputDue k s with
  | none => s
  | some raw => evaluate (filteredSample k raw s) (storeOutput k raw s)

/-! ## The arrival at IDLE (R101, R119, R130, R131) -/

/-- An output that is due at the arrival at IDLE is delivered, an event of its own: what went before it has been concluded,
and its watches fire (R173; log 12). -/
def deliverDue (k : Fin 16) (s : State) : State :=
  if (outputDue k s).isSome then settleWatches (conclude (deliver k (conclude s))) else s

/-- The outputs that are due when acquisition reaches IDLE are delivered first: their raw samples were taken before
(R119; log 14). R117 gives deliveries of different streams no order; they are taken in ascending stream number (DESIGN
CHOICE, log 14). -/
def deliverOutstanding (s : State) : State := allStreams.foldl (fun t k => deliverDue k t) s

/-- The steps of R130, in order. -/
def reachIdle (reason : IdleReason) (s : State) : State :=
  let disarmed := disarmAll { s with acquisition := .idle }
  let halted := { disarmed with round := .noRound, pacer := .stopped }
  let emptied := { emptyAllRings halted with sinks := Vector.replicate 16 .none }
  raiseNotice (.acquisitionIdle reason emptied.clock.timebase emptied.records.length) emptied

/-- Acquisition reaches IDLE (R130). -/
def arriveIdle (reason : IdleReason) (s : State) : State := reachIdle reason (deliverOutstanding s)

/-- The drain ends when no record is OPEN (R43, R128). -/
def endDrain (s : State) : State :=
  if decide (s.acquisition = .draining) && !anyOpen s then arriveIdle .drained s else s

/-! ## The steps that follow at once -/

/-- A stream whose remaining post count is 0 stops collecting; its record closes when it was the last, and the drain ends
when that was the last OPEN record (R39 to R43). -/
def reachPostCount (k : Fin 16) (s : State) : State :=
  match postCountDue k s with
  | some n => endDrain (closeIfDone n (stopCollecting n k s))
  | none => s

/-- A post count that has been reached is taken, an event of its own: an idle line begins the frames that it makes
pending before any other event is taken (R39, R173; log 12). -/
def settlePostCount (k : Fin 16) (s : State) : State :=
  if (postCountDue k s).isSome then conclude (reachPostCount k s) else s

/-- The post counts that have been reached are taken (R39). -/
def settlePostCounts (s : State) : State := allStreams.foldl (fun t k => settlePostCount k t) s

/-- The steps that a delivery leaves due are taken before any other event: POST_COUNT_REACHED, WATCH_HOLDOFF_END and
WATCH_FIRE (R39, R75, R77; log 1). -/
def settle (s : State) : State := settleWatches (settlePostCounts s)

/-- DECIMATION_OUTPUT: a due output is made and delivered; when its store stage cut the last collecting window of a drain,
the drain ends (R14, R43, R113). -/
def takeOutput (k : Fin 16) (s : State) : State :=
  match outputDue k s with
  | none => s
  | some raw => evaluate (filteredSample k raw s) (endDrain (storeOutput k raw s))

/-- An output that is due is taken before another event that must follow it, an event of its own, with the steps it leaves
due (R117, R119, R173; logs 12, 14). -/
def takeDueOutput (k : Fin 16) (s : State) : State :=
  if (outputDue k s).isSome then settle (conclude (takeOutput k s)) else s

/-- Every due output is delivered with all that follows from it: an event that needs the raw samples taken before it to
have been delivered (R119) takes them so. R117 gives deliveries of different streams no order; they are taken in ascending
stream number (DESIGN CHOICE, log 14). -/
def deliverAll (s : State) : State := allStreams.foldl (fun t k => takeDueOutput k t) s

/-- Start gives a stream its sink (R7, R20). -/
def startSink (settings : StreamSettings) : Sink := if settings.enabled then idleSink settings else .none

/-- Start prepares every stream for storage: empty rings, and sink RING for enabled streams with H > 0 (R20). -/
def prepareStorage (s : State) : State :=
  { emptyAllRings s with sinks := s.streams.map startSink }

/-- A trigger sent in a run that has ended (R26). -/
def agedTrigger (t : Trigger) : Trigger := { t with earlierRun := true }

/-- Under PACED the Start begins the first round and the pacer (R98); otherwise no round begins (R125). -/
def startRounds (s : State) : State :=
  match s.settings.source with
  | .paced => { beginRound s with pacer := .running (microseconds s.settings.period) (microseconds s.settings.period) }
  | .external => s
  | .host => s

/-- A successful Start (R125): filters primed, storage prepared, watches armed, RUNNING, and the first round under PACED.
Triggers still on their way were sent in an earlier run (R26). -/
def beginRun (s : State) : State :=
  startRounds
    { armAll (prepareStorage (primeFilters s)) with
      acquisition := .running, triggers := s.triggers.map agedTrigger }

/-- Every collecting part of every OPEN record stops, and the record gains STOPPED (R44). -/
def stopRecord (n : Nat) (s : State) : State :=
  match findRecord n s with
  | none => s
  | some r =>
    let stopped := r.parts.foldl (fun t p => if p.collecting then stopCollecting n p.stream t else t) s
    changeFlags n (fun f => { f with stopped := f.stopped || (r.parts.any fun p => p.collecting) }) stopped

/-- The numbers of the OPEN records, in table order (R44). -/
def openNumbers (s : State) : List Nat := (s.records.filter isOpen).map fun r => r.number

/-- An immediate stop ends every OPEN record: all stop collecting, then they close in table order (R44). -/
def stopAllRecords (s : State) : State :=
  (openNumbers s).foldl (fun t n => closeIfDone n t) ((openNumbers s).foldl (fun t n => stopRecord n t) s)

/-- STOP IMMEDIATE while RUNNING or DRAINING (R129). -/
def stopNow (s : State) : State := reachIdle .stopped (stopAllRecords (disarmAll s))

/-- STOP GRACEFUL while RUNNING (R127). -/
def stopGently (s : State) : State :=
  if anyOpen s then { disarmAll s with acquisition := .draining } else reachIdle .drained (disarmAll s)

end Sys2Proof.Machine
end

