-- ==== Sys2Proof/Machine/Link.lean ====
section
/-! DEFINITION. Taking an event, the Link Receiver, and the link reset (chapter 9). -/

namespace Sys2Proof.Machine

/-! ## Taking an event -/

/-- A live part takes an event: first the steps that the last delivery left due, then the event, then what follows. While
the blocks are held in reset nothing is taken (R221). -/
def takeEvent (event : State → State) (s : State) : State :=
  if s.resetting.held then s else conclude (event (settle s))

/-- One of the steps that a delivery leaves due is taken by its own command: it is not preceded by the others. -/
def takeDueStep (event : State → State) (s : State) : State := if s.resetting.held then s else conclude (event s)

/-! ## The receiver (R158 to R165) -/

/-- The receiver replaced. -/
def setReceiver (r : Receiver) (s : State) : State := { s with receiver := r }

/-- HUNT: no frame, no expected count, no timer (R158). -/
def hunting (r : Receiver) : Receiver := { r with state := .hunt, content := [], expected := none, timer := none }

/-- OPEN begins a frame (R160). -/
def beginningFrame (r : Receiver) : Receiver :=
  { r with state := .inFrame, content := [], expected := none, timer := some interCharacterTime }

/-- A framing error: the frame is discarded and RX_FRAMING rises; an OPEN begins a new frame (R159). -/
def framingError (byOpen : Bool) (s : State) : State :=
  countUp .rxFraming (setReceiver (if byOpen then beginningFrame s.receiver else hunting s.receiver) s)

/-- A good frame is offered to the inbound queue (R165). -/
def offerRequest (r : Request) (s : State) : State :=
  if s.inbound.length < inboundTotal then { s with inbound := s.inbound ++ [r] } else countUp .requestDiscarded s

/-- A completed frame is checked: the CRC over all but the last two bytes against those two, low byte first (R164). -/
def checkFrame (content : List Byte) (s : State) : State :=
  let covered := content.take (content.length - 2)
  if (crcOf covered).toNat = valueOf (content.drop (content.length - 2)) then
    match covered with
    | type :: tag :: _ :: payload => offerRequest { type := type, tag := tag, payload := payload } s
    | _ => s
  else countUp .rxCrc s

/-- The expected count after a byte is collected: the third byte is the length (R161). -/
def expectedAfter (content : List Byte) (b : Byte) (expected : Option Nat) : Option Nat :=
  if content.length = 3 then some (b.toNat + 5) else expected

/-- A content byte is collected; the frame is complete at the expected count (R161, R162). -/
def collectByte (b : Byte) (s : State) : State :=
  let content := s.receiver.content ++ [b]
  let expected := expectedAfter content b s.receiver.expected
  if expected = some content.length then checkFrame content (setReceiver (hunting s.receiver) s)
  else
    setReceiver { s.receiver with
      state := .inFrame, content := content, expected := expected, timer := some interCharacterTime } s

/-- SUSPEND, RESUME and ABORT: framing errors inside a frame (R154, R159). -/
def isLineMark (b : Byte) : Bool := b == charSuspend || b == charResume || b == charAbort

/-- The second character of an escape lies in C1h to C5h (R162). -/
def isFollower (b : Byte) : Bool := decide (0xC1 ≤ b.toNat ∧ b.toNat ≤ 0xC5)

/-- A character taken in HUNT (R160). -/
def takeInHunt (c : RxCharacter) (s : State) : State :=
  match c with
  | .error => s
  | .startedInReset => s
  | .good b => if b = charOpen then setReceiver (beginningFrame s.receiver) s else s

/-- A character taken in IN_FRAME (R161). -/
def takeInFrame (c : RxCharacter) (s : State) : State :=
  match c with
  | .error => framingError false s
  | .startedInReset => s
  | .good b =>
    if b = charOpen then framingError true s
    else if isLineMark b then framingError false s
    else if b = charEscape then
      setReceiver { s.receiver with state := .escapePending, timer := some interCharacterTime } s
    else collectByte b s

/-- A character taken in ESCAPE_PENDING (R162). -/
def takeEscaped (c : RxCharacter) (s : State) : State :=
  match c with
  | .error => framingError false s
  | .startedInReset => s
  | .good b =>
    if b = charOpen then framingError true s
    else if isFollower b then collectByte (b ^^^ 0x20) s
    else framingError false s

/-- A character on RXD (R153); none is taken while the break mark is set (R169). -/
def receiveCharacter (c : RxCharacter) (s : State) : State :=
  if s.receiver.breakMark then s
  else
    match s.receiver.state with
    | .hunt => takeInHunt c s
    | .inFrame => takeInFrame c s
    | .escapePending => takeEscaped c s

/-- The inter-character timer expires inside a frame (R163); the time to its expiry passes first (log 3). -/
def receiveTimeout (s : State) : State :=
  match s.receiver.timer with
  | some left =>
    let t := elapse left s
    countUp .rxTimeout (setReceiver (hunting t.receiver) t)
  | none => s

/-! ## The link reset (R167, R168, R180) -/

/-- Whether a frame is a reply (R167). -/
def isReply (f : Frame) : Bool :=
  match f.kind with
  | .reply => true
  | .restartReply => true
  | .notice => false
  | .alarmReport _ _ _ => false
  | .chunk => false

/-- The frames in transmission (R174). -/
def framesInTransmission (s : State) : List Frame :=
  (s.transmit.sending.toList ++ s.transmit.suspended).map fun t => t.frame

/-- The frames that a link reset discards: those queued and those in transmission (R167). -/
def discardedFrames (s : State) : List Frame := s.transmit.urgent ++ s.transmit.normal ++ framesInTransmission s

/-- Whether a link reset discards the reply to a Restart (R168). -/
def discardsRestart (s : State) : Bool := (discardedFrames s).any fun f => decide (f.kind = .restartReply)

/-- A counter's cause occurring several times. -/
def countTimes (id : CounterId) : Nat → State → State
  | 0, s => s
  | n + 1, s => countTimes id n (countUp id s)

/-- Step 1: the frame being received and the inbound queue are discarded, so that none is left behind the request in
execution; HUNT with the break mark set (R167). -/
def breakReceiver (s : State) : State :=
  { s with
    receiver := { hunting s.receiver with breakMark := true }
    inbound := []
    dispatcher := { s.dispatcher with behind := 0 } }

/-- Step 2: ABORT when a frame is in transmission (R167, R180). -/
def breakTransmitter (s : State) : State := endFrames (if inTransmission s then tellAbort s else s)

/-- Step 3: the queues are emptied; discarded replies are counted and discarded reports add their drop counts back, with
their entries PENDING (R136, R143, R167). -/
def breakQueues (discarded : List Frame) (s : State) : State :=
  countTimes .replyDiscarded (discarded.filter isReply).length
    { addDrops (discarded.map carriedDrops).sum s with
      transmit := { s.transmit with urgent := [], normal := [] }
      alarms := s.alarms.map requeueAlarm }

/-- The READOUT_ENDED notice of step 4, when a readout is in progress at the link reset (R66, R67). -/
def brokenReadout (s : State) : List Notice :=
  if s.readout.state = .idle then []
  else [.readoutEnded s.readout.record .linkReset (resumeOffset .linkReset s)]

/-- Step 4: a readout in progress ends and the source is IDLE (R67). -/
def breakReadout (s : State) : State := if s.readout.state = .idle then s else releaseReadout s

/-- Steps 1 to 5, with the FAULT notices they cause held until step 6 (R167). -/
def clearLink (s : State) : State :=
  countUp .linkResets
    (breakReadout (breakQueues (discardedFrames s) (breakTransmitter (breakReceiver (holdNotices s)))))

/-- Step 6: RESTARTED (LINK), then READOUT_ENDED, then the FAULT notices (R167). -/
def announceLink (readout : List Notice) (s : State) : State :=
  ((Notice.restarted .link :: readout) ++ heldNotices s).foldl (fun t n => offerNotice n t) (stopHolding s)

/-- A Restart whose reply the link reset discarded takes effect after the ABORT, or at once when none is sent (R168). -/
def restartAfterBreak (pins : PinLevels) (s : State) : State :=
  if aborting s then { s with resetting := { s.resetting with awaited := some (s.resetting.awaited.getD .restart) } }
  else endReset .request pins s

/-- The link reset, steps 1 to 6 (R167); step 7 is the alarm move at the end of the event. -/
def linkReset (pins : PinLevels) (s : State) : State :=
  let t := announceLink (brokenReadout s) (clearLink s)
  if discardsRestart s then restartAfterBreak pins t else t

/-- The first character of a break is a character error, taken before the break: a frame still being received ends with a
framing error as an event of its own (R166). In HUNT it is ignored. -/
def endBrokenFrame (s : State) : State :=
  match s.receiver.state with
  | .hunt => s
  | .inFrame => conclude (receiveCharacter .error s)
  | .escapePending => conclude (receiveCharacter .error s)

end Sys2Proof.Machine
end

