-- ==== Sys2Proof/Machine/Operands.lean ====
section
/-! DEFINITION. The operands of the requests: their payloads, read field by field, with the length and range checks of
stages 2 and 3 (R185, R186, chapter 11). -/

namespace Sys2Proof.Machine

/-- A refusal: the status and its detail byte (R186). -/
structure Refused where
  status : Status
  detail : Byte
  deriving DecidableEq, Repr

/-- The verdict on a request: what it asks for, or its refusal (R185). -/
abbrev Verdict (α : Type) := Except Refused α

/-- A refusal as a verdict. -/
def refuse {α : Type} (status : Status) (detail : Byte) : Verdict α := .error { status := status, detail := detail }

/-- BAD_LENGTH with the length the type requires (R186). -/
def badLength {α : Type} (required : Byte) : Verdict α := refuse .badLength required

/-- The index, from 1, of the first field out of range (R186); `inRange` says it of each field in order. -/
def firstOutOfRange : Nat → List Bool → Option Nat
  | _, [] => none
  | index, true :: rest => firstOutOfRange (index + 1) rest
  | index, false :: _ => some index

/-- Stage 3: BAD_PARAM with the index of the first field out of range (R185, R186). -/
def checkFields {α : Type} (inRange : List Bool) (value : α) : Verdict α :=
  match firstOutOfRange 1 inRange with
  | some index => refuse .badParam (byteOf index)
  | none => .ok value

/-- Whether a single-byte field is below a bound. -/
def below (bound : Nat) (b : Byte) : Bool := decide (b.toNat < bound)

/-- An on/off or yes/no field: 00h or 01h. -/
def isFlag (b : Byte) : Bool := below 2 b

/-- A profile that may be NONE: 00h to 03h, or FFh (R198, R199). -/
def isOptionalProfile (b : Byte) : Bool := below 4 b || b == 0xFF

/-- The profile a byte names. -/
def optionalProfile (b : Byte) : Option (Fin 4) := if b = 0xFF then none else some (Fin.ofNat 4 b.toNat)

/-- A 16-bit field, as bits. -/
def word (low high : Byte) : BitVec 16 := BitVec.ofNat 16 (valueOf [low, high])

/-- A yes/no field read. -/
def isOn (b : Byte) : Bool := !(b == 0)

/-- No payload (length 0). -/
def readNothing (payload : List Byte) : Verdict Unit :=
  match payload with
  | [] => .ok ()
  | _ :: _ => badLength 0

/-- One byte below a bound (length 1). -/
def readByte (bound : Nat) (payload : List Byte) : Verdict Byte :=
  match payload with
  | [b] => checkFields [below bound b] b
  | _ => badLength 1

/-- A record number, 1 to 65535 (length 2, R209). -/
def readRecordNumber (payload : List Byte) : Verdict Nat :=
  match payload with
  | [a, b] => checkFields [decide (valueOf [a, b] ≠ 0)] (valueOf [a, b])
  | _ => badLength 2

/-- Set Time (R192): a Timebase value in 6 bytes; every value is in range. -/
def readSetTime (payload : List Byte) : Verdict Time :=
  match payload with
  | [a, b, c, d, e, f] => .ok (BitVec.ofNat 48 (valueOf [a, b, c, d, e, f]))
  | _ => badLength 6

/-- The slots of Configure Scan, 4 bytes each (R194). -/
def readSlots : List Byte → List Slot
  | input :: polarity :: gain :: settle :: rest =>
    { input := Fin.ofNat 8 input.toNat, polarity := if isOn polarity then .inverted else .normal,
      gain := Fin.ofNat 4 gain.toNat, settle := Fin.ofNat 4 settle.toNat } :: readSlots rest
  | _ => []

/-- The ranges of the slots' fields, in field order (R194). -/
def slotsInRange : List Byte → List Bool
  | input :: polarity :: gain :: settle :: rest =>
    below 8 input :: isFlag polarity :: below 4 gain :: below 4 settle :: slotsInRange rest
  | _ => []

/-- Configure Scan (R194): the length must be 1 plus 4 times the first payload byte. -/
def readConfigureScan (payload : List Byte) : Verdict (List Slot) :=
  match payload with
  | [] => badLength 0xFF
  | n :: slots =>
    if slots.length = 4 * n.toNat then
      checkFields (decide (1 ≤ n.toNat ∧ n.toNat ≤ 16) :: slotsInRange slots) (readSlots slots)
    else badLength 0xFF

/-- The filter a byte names (R195). -/
def readFilter (b : Byte) : FilterChoice := if b = 0xFF then .bypass else .coefficients (Fin.ofNat 4 b.toNat)

/-- Configure Stream (R195). -/
def readConfigureStream (payload : List Byte) : Verdict (Fin 16 × StreamSettings) :=
  match payload with
  | [stream, enabled, filter, decimation, history, format] =>
    checkFields
      [below 16 stream, isFlag enabled, below 4 filter || filter == 0xFF,
        decide (1 ≤ decimation.toNat ∧ decimation.toNat ≤ 16), below 17 history, isFlag format]
      (Fin.ofNat 16 stream.toNat,
        { enabled := isOn enabled, filter := readFilter filter, decimation := decimation.toNat,
          history := history.toNat, format := if isOn format then .packed else .full })
  | _ => badLength 6

/-- Coefficients, 2 bytes each, c0 first (R196). -/
def readCoefficientList : List Byte → List Sample
  | low :: high :: rest => word low high :: readCoefficientList rest
  | _ => []

/-- Load Coefficients (R196): the length must be 3 plus 2 times the second payload byte. -/
def readLoadCoefficients (payload : List Byte) : Verdict (Fin 4 × CoefficientSet) :=
  match payload with
  | set :: taps :: shift :: rest =>
    if rest.length = 2 * taps.toNat then
      checkFields [below 4 set, below 33 taps, below 16 shift]
        (Fin.ofNat 4 set.toNat, { shift := shift.toNat, coefficients := readCoefficientList rest })
    else badLength 0xFF
  | _ => badLength 0xFF

/-- Configure Profile (R197). -/
def readConfigureProfile (payload : List Byte) : Verdict (Fin 4 × Profile) :=
  match payload with
  | [profile, m0, m1, p0, p1, q0, q1, extend] =>
    checkFields [below 4 profile, true, true, decide (valueOf [q0, q1] ≠ 0), isFlag extend]
      (Fin.ofNat 4 profile.toNat,
        { mask := word m0 m1, preCount := valueOf [p0, p1], postCount := valueOf [q0, q1], extend := isOn extend })
  | _ => badLength 8

/-- The watch kind a byte codes (R198). -/
def readKind (b : Byte) : WatchKind :=
  match b.toNat with
  | 0 => .above
  | 1 => .below
  | 2 => .outside
  | _ => .step

/-- The consistency of a watch definition (R70): OUTSIDE needs low at most high, STEP a high of 0 or more. -/
def isConsistent (d : WatchDefinition) : Bool :=
  match d.kind with
  | .outside => decide (d.low.toInt ≤ d.high.toInt)
  | .step => decide (0 ≤ d.high.toInt)
  | .above => true
  | .below => true

/-- Stage 3 of Configure Watch ends with the consistency check: BAD_PARAM, index 6 (R198). -/
def checkConsistent (w : Fin 8) (d : WatchDefinition) : Verdict (Fin 8 × WatchDefinition) :=
  if isConsistent d then .ok (w, d) else refuse .badParam 6

/-- Configure Watch (R198). -/
def readConfigureWatch (payload : List Byte) : Verdict (Fin 8 × WatchDefinition) :=
  match payload with
  | [watch, enabled, stream, kind, l0, l1, h0, h1, y0, y1, q, d0, d1, profile, alarm, oneShot] =>
    (checkFields
      [below 8 watch, isFlag enabled, below 16 stream, below 4 kind, true, true, decide (valueOf [y0, y1] ≤ 32767),
        decide (1 ≤ q.toNat), true, isOptionalProfile profile, isFlag alarm, isFlag oneShot] ()).bind fun _ =>
      checkConsistent (Fin.ofNat 8 watch.toNat)
        { enabled := isOn enabled, stream := Fin.ofNat 16 stream.toNat, kind := readKind kind, low := word l0 l1,
          high := word h0 h1, hysteresis := valueOf [y0, y1], qualify := q.toNat, holdoff := valueOf [d0, d1],
          profile := optionalProfile profile, alarm := isOn alarm, oneShot := isOn oneShot }
  | _ => badLength 16

/-- Configure External Trigger (R199). -/
def readConfigureExternal (payload : List Byte) : Verdict ExternalDefinition :=
  match payload with
  | [enabled, edge, profile, alarm, h0, h1, h2, h3] =>
    checkFields
      [isFlag enabled, isFlag edge, isOptionalProfile profile, isFlag alarm,
        decide (valueOf [h0, h1, h2, h3] ≤ 1000000)]
      { enabled := isOn enabled, edge := if isOn edge then .falling else .rising, profile := optionalProfile profile,
        alarm := isOn alarm, holdoff := valueOf [h0, h1, h2, h3] }
  | _ => badLength 8

/-- The round source a byte codes (R200). -/
def readSource (b : Byte) : RoundSource :=
  match b.toNat with
  | 0 => .paced
  | 1 => .external
  | _ => .host

/-- Configure Acquisition (R200). -/
def readConfigureAcquisition (payload : List Byte) : Verdict AcquisitionSettings :=
  match payload with
  | [source, p0, p1, p2, p3, policy] =>
    checkFields
      [below 3 source, decide (10 ≤ valueOf [p0, p1, p2, p3] ∧ valueOf [p0, p1, p2, p3] ≤ 1000000), isFlag policy]
      { source := readSource source, period := valueOf [p0, p1, p2, p3],
        policy := if isOn policy then .discardOldestRead else .refuseNew }
  | _ => badLength 6

/-- What Read Configuration names (R201). -/
inductive ConfigurationItem where
  | scan
  | stream (k : Fin 16)
  | coefficientSet (set : Fin 4)
  | profile (p : Fin 4)
  | watch (w : Fin 8)
  | externalTrigger
  | acquisition
  deriving DecidableEq, Repr

/-- The number of item numbers of an item, from 0 (R201). -/
def itemNumbers (item : Byte) : Nat :=
  match item.toNat with
  | 1 => 16
  | 2 => 4
  | 3 => 4
  | 4 => 8
  | _ => 1

/-- The item that an item code and number name (R201). -/
def readItem (item number : Byte) : ConfigurationItem :=
  match item.toNat with
  | 0 => .scan
  | 1 => .stream (Fin.ofNat 16 number.toNat)
  | 2 => .coefficientSet (Fin.ofNat 4 number.toNat)
  | 3 => .profile (Fin.ofNat 4 number.toNat)
  | 4 => .watch (Fin.ofNat 8 number.toNat)
  | 5 => .externalTrigger
  | _ => .acquisition

/-- Read Configuration (R201). -/
def readReadConfiguration (payload : List Byte) : Verdict ConfigurationItem :=
  match payload with
  | [item, number] => checkFields [below 7 item, below (itemNumbers item) number] (readItem item number)
  | _ => badLength 2

/-- Read Record (R207): a record number of 1 to 65535 and an image offset. -/
def readReadRecord (payload : List Byte) : Verdict (Nat × Nat) :=
  match payload with
  | [n0, n1, o0, o1] => checkFields [decide (valueOf [n0, n1] ≠ 0), true] (valueOf [n0, n1], valueOf [o0, o1])
  | _ => badLength 4

end Sys2Proof.Machine
end

