-- ==== Sys2Proof/Machine/Dispatcher.lean ====
section
/-! DEFINITION. The Request Dispatcher: carrying out the request in execution, the stage 4 and 5 checks, and the reply
data (chapter 11). -/

namespace Sys2Proof.Machine

/-! ## Carrying out a request (R184, R187, R188) -/

/-- Execution ends and the Dispatcher is FREE again (R184). -/
def freeDispatcher (s : State) : State := { s with dispatcher := { s.dispatcher with state := .free } }

/-- A reply joins the NORMAL queue, and an idle line begins it at once: before the notices that follow it are offered, and
before a link reset that is taken right after it (R173, R187, R188; log 12). -/
def queueReplyFrame (f : Frame) (s : State) : State := decideIdle (queueNormal f s)

/-- The reply of a request is queued (R187). -/
def queueReply (r : Request) (status : Status) (data : List Byte) (s : State) : State :=
  queueReplyFrame (replyFrame r status data) s

/-- The notices held by a request whose reply a link reset has met follow the reply: they are discarded as if queued, so
that a FAULT notice's mark is REPORTED and no reserve is tested (R167, R168, R188; log 26). -/
def discardHeld (s : State) : State := (heldNotices s).foldl (fun t n => markNotice n .reported t) (stopHolding s)

/-- A link reset taken right after the reply has been queued, if one is: `cut` gives the pin levels that the reset which
follows a discarded Restart reply samples (R168, R188). -/
def afterReply (cut : Option PinLevels) (s : State) : State :=
  match cut with
  | none => s
  | some pins => linkReset pins (discardHeld s)

/-- The held notices are offered, unless a link reset is taken first (R188). -/
def offerOrCut (cut : Option PinLevels) (s : State) : State :=
  match cut with
  | none => offerHeld s
  | some _ => afterReply cut s

/-- A refused request: the status and the detail byte are its reply, and it changes nothing else (R185 to R187). -/
def answerRefused (cut : Option PinLevels) (r : Request) (e : Refused) (s : State) : State :=
  freeDispatcher (afterReply cut (queueReply r e.status [e.detail] s))

/-- An accepted request: its effect, with the notices it causes held; then the reply; then the held notices (R188). A link
reset right after the reply finds the whole effect done: also of a Read Record, whose source R62 makes ACTIVE after the
reply has been queued (DESIGN CHOICE, log 26). -/
def answerAccepted (cut : Option PinLevels) (r : Request) (effect : State → State × List Byte) (s : State) : State :=
  let (t, data) := effect (holdNotices s)
  freeDispatcher (offerOrCut cut (queueReply r .ok data t))

/-- A request is validated and refused or carried out, as one operation (R184, R185). -/
def answer {α : Type} (cut : Option PinLevels) (r : Request) (verdict : Verdict α)
    (effect : α → State → State × List Byte) (s : State) : State :=
  match verdict with
  | .error e => answerRefused cut r e s
  | .ok a => answerAccepted cut r (effect a) s

/-- The Dispatcher carries out the request in execution when it is one that the command stands for; otherwise no such
request is in execution, and nothing happens (log 4, log 11). -/
def carryOut (serves : Request → Bool) (run : Request → State → State) (s : State) : State :=
  match s.dispatcher.state with
  | .executing r => if serves r then run r s else s
  | .free => s
  | .restarting => s

/-- A request of a type. -/
def ofType (type : Byte) (r : Request) : Bool := r.type == type

/-- The request types of chapter 11 (R185). -/
def requestTypes : List Byte :=
  [0x01, 0x02, 0x03, 0x04, 0x05, 0x10, 0x11, 0x12, 0x13, 0x14, 0x15, 0x16, 0x17, 0x20, 0x21, 0x22, 0x23, 0x30, 0x31,
    0x32, 0x33, 0x34, 0x38]

/-- A request whose type is not a request type (R185). -/
def isUnknown (r : Request) : Bool := !requestTypes.contains r.type

/-- A check of stage 4 or 5: when it fails the request is refused. -/
def unlessOk {α : Type} (passes : Bool) (status : Status) (detail : Byte) (v : Verdict α) : Verdict α :=
  if passes then v else refuse status detail

/-- Stage 4 of the IDLE-only requests: WRONG_STATE unless acquisition is IDLE (7.6). -/
def onlyIdle {α : Type} (s : State) (v : Verdict α) : Verdict α :=
  v.bind fun a => unlessOk (decide (s.acquisition = .idle)) .wrongState 0xFF (.ok a)

/-! ## Identify, Get Status, counters (R189, R190, R193) -/

/-- The Identify data (R189). -/
def identifyData : List Byte :=
  lowFirst 2 0x0A5C ++ lowFirst 2 0x0416 ++ [0x01, 8, 16, 4, 32, 192, 32, 8, 8]

/-- The number of the READING record, 0 when the readout source is IDLE (R61, R190). -/
def readingRecord (s : State) : Nat := if s.readout.state = .idle then 0 else s.readout.record

/-- The Get Status data; the inbound fill is what the request left behind it in the inbound queue (R165, R190; log 25). -/
def statusData (s : State) : List Byte :=
  [acquisitionByte s.acquisition, byteOf s.free.length, byteOf (ringPageTotal s), byteOf (recordPageTotal s),
    byteOf s.records.length, byteOf (s.records.filter isOpen).length, byteOf s.alarms.length,
    byteOf s.dispatcher.behind]
    ++ lowFirst 2 (readingRecord s) ++ timeBytes s.clock.timebase

/-- The set of counters whose mark is UNREPORTED: counter i is a member when bit i is 1 (R193). -/
def unreportedSet (s : State) : Nat :=
  (allCounters.map fun id => if (counterOf s id).mark = .unreported then 2 ^ (counterIndex id).val else 0).sum

/-- The Read Counters data (R193). -/
def countersData (s : State) : List Byte :=
  allCounters.flatMap (fun id => lowFirst 2 (counterOf s id).value) ++ lowFirst 2 (unreportedSet s)

/-- Every counter 0 and every mark CLEAR (R151). -/
def clearCounters (s : State) : State := { s with counters := Vector.replicate 16 resetCounter }

/-! ## Usable profiles (R23, R124) -/

/-- A profile is usable when its stream mask is non-empty and holds only enabled streams (R23). -/
def usableProfile (p : Fin 4) (s : State) : Bool :=
  !(maskStreams s.profiles[p].mask).isEmpty &&
    (maskStreams s.profiles[p].mask).all fun k => s.streams[k].enabled

/-- A profile that a source names, or NONE, is usable (R82, R124). -/
def usableOrNone (p : Option (Fin 4)) (s : State) : Bool :=
  match p with
  | some q => usableProfile q s
  | none => true

/-- The detail of an unusable profile: 30h plus its number (R198, R199, R205). -/
def profileDetail (p : Option (Fin 4)) : Byte := byteOf (0x30 + (p.map fun q => q.val).getD 0)

/-! ## Start (R123, R124) -/

/-- The enabled streams, ascending. -/
def enabledStreams (s : State) : List (Fin 16) := allStreams.filter fun k => s.streams[k].enabled

/-- Step 2: the first enabled stream without a slot (R123). -/
def slotless (s : State) : Option (Fin 16) := (enabledStreams s).find? fun k => !decide (k.val < s.scan.length)

/-- Whether a filter names BYPASS or a loaded set (R123). -/
def isLoaded (f : FilterChoice) (s : State) : Bool :=
  match f with
  | .bypass => true
  | .coefficients set => !s.coefficients[set].coefficients.isEmpty

/-- Step 3: the first enabled stream naming a set with no taps (R123). -/
def unloaded (s : State) : Option (Fin 16) := (enabledStreams s).find? fun k => !isLoaded s.streams[k].filter s

/-- Whether a watch passes step 4: not enabled, or its stream is enabled and its profile usable (R124). -/
def watchPasses (d : WatchDefinition) (s : State) : Bool :=
  !d.enabled || (s.streams[d.stream].enabled && usableOrNone d.profile s)

/-- Step 4, the watches: the first that fails (R124). -/
def failingWatch (s : State) : Option (Fin 8) := allWatches.find? fun w => !watchPasses s.watches[w].definition s

/-- Step 4, the external trigger (R124). -/
def externalPasses (d : ExternalDefinition) (s : State) : Bool := !d.enabled || usableOrNone d.profile s

/-- The sum of H over the enabled streams (R123). -/
def historySum (s : State) : Nat := ((enabledStreams s).map fun k => s.streams[k].history).sum

/-- Step 6: under PACED the period must be at least the round time plus 2 us (R123). -/
def paceFits (s : State) : Bool :=
  !decide (s.settings.source = .paced) || decide (roundMicroseconds s + 2 ≤ s.settings.period)

/-- The detail of the first stream or watch that fails a step. -/
def failDetail {n : Nat} (base : Nat) (k : Option (Fin n)) : Byte := byteOf (base + (k.map fun j => j.val).getD 0)

/-- The validation of a Start (R123): WRONG_STATE, then steps 1 to 6. -/
def checkStart (s : State) : Verdict Unit :=
  unlessOk (decide (s.acquisition = .idle)) .wrongState 0xFF <|
  unlessOk (!s.scan.isEmpty && !(enabledStreams s).isEmpty) .notConfigured 0xFF <|
  unlessOk (slotless s).isNone .notConfigured (failDetail 0 (slotless s)) <|
  unlessOk (unloaded s).isNone .notConfigured (failDetail 0 (unloaded s)) <|
  unlessOk (failingWatch s).isNone .notConfigured (failDetail 0x20 (failingWatch s)) <|
  unlessOk (externalPasses s.external.definition s) .notConfigured 0x28 <|
  unlessOk (decide (historySum s ≤ historyTotal)) .poolOvercommit (byteOf (historySum s - historyTotal)) <|
  unlessOk (paceFits s) .paceTooFast (byteOf (roundMicroseconds s + 2)) (.ok ())

/-! ## Configuration (R194 to R201) -/

/-- Whether a coefficient set is in use: an enabled stream names it (R109). -/
def setInUse (set : Fin 4) (s : State) : Bool :=
  (enabledStreams s).any fun k => decide (s.streams[k].filter = .coefficients set)

/-- Stage 5 of Load Coefficients: SET_IN_USE while acquiring (R109, R196). -/
def checkLoad (s : State) (v : Fin 4 × CoefficientSet) : Verdict (Fin 4 × CoefficientSet) :=
  unlessOk (!(acquiring s && setInUse v.1 s)) .setInUse (byteOf v.1.val) (.ok v)

/-- Stage 5 of Configure Watch, when RUNNING and enabled: the stream, then the profile (R82, R198). -/
def checkWatchEdit (s : State) (v : Fin 8 × WatchDefinition) : Verdict (Fin 8 × WatchDefinition) :=
  if decide (s.acquisition = .running) && v.2.enabled then
    unlessOk s.streams[v.2.stream].enabled .notConfigured (byteOf v.2.stream.val) <|
    unlessOk (usableOrNone v.2.profile s) .notConfigured (profileDetail v.2.profile) (.ok v)
  else .ok v

/-- The state an accepted edit gives a watch (R82). -/
def editedState (enabled : Bool) (s : State) : WatchState :=
  if decide (s.acquisition = .running) && enabled then .armed else .disarmed

/-- Stage 5 of Configure External Trigger, when RUNNING and enabled (R88, R199). -/
def checkExternalEdit (s : State) (d : ExternalDefinition) : Verdict ExternalDefinition :=
  if decide (s.acquisition = .running) && d.enabled then
    unlessOk (usableOrNone d.profile s) .notConfigured (profileDetail d.profile) (.ok d)
  else .ok d

/-- The external trigger after an accepted edit (R88). -/
def editedExternal (d : ExternalDefinition) (s : State) : ExternalTrigger :=
  { definition := d, state := if decide (s.acquisition = .running) && d.enabled then .armed else .disarmed }

/-- A slot in the form of Configure Scan (R194). -/
def slotBytes (slot : Slot) : List Byte :=
  [byteOf slot.input.val, polarityByte slot.polarity, byteOf slot.gain.val, byteOf slot.settle.val]

/-- Fields 2 to 6 of Configure Stream (R195). -/
def streamBytes (x : StreamSettings) : List Byte :=
  [flagByte x.enabled, filterByte x.filter, byteOf x.decimation, byteOf x.history, formatByte x.format]

/-- Fields 2 onward of Load Coefficients (R196). -/
def coefficientBytes (x : CoefficientSet) : List Byte :=
  [byteOf x.coefficients.length, byteOf x.shift] ++ x.coefficients.flatMap sampleBytes

/-- Fields 2 to 5 of Configure Profile (R197). -/
def profileBytes (x : Profile) : List Byte :=
  lowFirst 2 x.mask.toNat ++ lowFirst 2 x.preCount ++ lowFirst 2 x.postCount ++ [flagByte x.extend]

/-- Fields 2 to 12 of Configure Watch (R198). -/
def watchBytes (d : WatchDefinition) : List Byte :=
  [flagByte d.enabled, byteOf d.stream.val, kindByte d.kind] ++ sampleBytes d.low ++ sampleBytes d.high
    ++ lowFirst 2 d.hysteresis ++ [byteOf d.qualify] ++ lowFirst 2 d.holdoff
    ++ [optionalProfileByte d.profile, flagByte d.alarm, flagByte d.oneShot]

/-- The count that Read Configuration reports: the qualify count in QUALIFYING, the holdoff count in HOLDOFF, otherwise 0
(R83). -/
def reportedCount (w : Watch) : Nat :=
  match w.state with
  | .qualifying => w.qualifyCount
  | .holdoff => w.holdoffCount
  | .disarmed => 0
  | .armed => 0
  | .rearmWait => 0

/-- The five fields of Configure External Trigger (R199). -/
def externalBytes (d : ExternalDefinition) : List Byte :=
  [flagByte d.enabled, edgeByte d.edge, optionalProfileByte d.profile, flagByte d.alarm] ++ lowFirst 4 d.holdoff

/-- The three fields of Configure Acquisition (R200). -/
def settingsBytes (x : AcquisitionSettings) : List Byte :=
  [roundSourceByte x.source] ++ lowFirst 4 x.period ++ [policyByte x.policy]

/-- The Read Configuration data: the echoed item and item number, then the values standing (R201). -/
def configurationData (item : ConfigurationItem) (s : State) : List Byte :=
  match item with
  | .scan => [0x00, 0] ++ [byteOf s.scan.length] ++ s.scan.flatMap slotBytes
  | .stream k => [0x01, byteOf k.val] ++ streamBytes s.streams[k]
  | .coefficientSet set => [0x02, byteOf set.val] ++ coefficientBytes s.coefficients[set]
  | .profile p => [0x03, byteOf p.val] ++ profileBytes s.profiles[p]
  | .watch w =>
      [0x04, byteOf w.val] ++ watchBytes s.watches[w].definition ++ [watchStateByte s.watches[w].state]
        ++ lowFirst 2 (reportedCount s.watches[w])
  | .externalTrigger =>
      [0x05, 0] ++ externalBytes s.external.definition ++ [externalStateByte s.external.state]
  | .acquisition => [0x06, 0] ++ settingsBytes s.settings

/-! ## Acquisition (R203 to R205) -/

/-- A mode byte other than GRACEFUL and IMMEDIATE, or a wrong length, is refused (R203). -/
def readStop (payload : List Byte) : Verdict Byte := readByte 2 payload

/-- Stages 4 and 5 of Convert Once (R100, R204). -/
def checkConvert (s : State) (u : Unit) : Verdict Unit :=
  unlessOk (acquiring s && decide (s.settings.source = .host)) .wrongState 0xFF <|
  unlessOk (decide (s.round = .noRound)) .roundBusy 0xFF (.ok u)

/-- Stages 4 and 5 of Force Capture (R89, R205). -/
def checkForce (s : State) (b : Byte) : Verdict (Fin 4) :=
  let p : Fin 4 := Fin.ofNat 4 b.toNat
  unlessOk (decide (s.acquisition = .running)) .wrongState 0xFF <|
  unlessOk (usableProfile p s) .notConfigured (profileDetail (some p)) (.ok p)

/-- The FORCE trigger of a Force Capture (R24, R89). -/
def forceTrigger (p : Fin 4) (s : State) : Trigger :=
  { profile := p, source := .force, time := s.clock.timebase, sample := none, alarm := false, earlierRun := false }

/-- The outcome of a Force Capture as reply data (R205). -/
def outcomeData (outcome : TriggerOutcome) : List Byte :=
  match outcome with
  | .opened n => 0x00 :: lowFirst 2 n ++ [0x00]
  | .retriggered n => 0x01 :: lowFirst 2 n ++ [0x00]
  | .lost .overlap => [0x02, 0, 0, 0x01]
  | .lost .full => [0x02, 0, 0, 0x02]
  | .lost .stopped => [0x02, 0, 0, 0x00]

/-! ## Records (R206 to R210) -/

/-- An entry of List Records (R206, R217). -/
def listEntry (r : CaptureRecord) : List Byte :=
  lowFirst 2 r.number ++ [byteOf r.profile.val, recordStateByte r.state, flagsByte r.flags]
    ++ lowFirst 2 (imageLength r)

/-- The List Records data (R206). -/
def listData (s : State) : List Byte := byteOf s.records.length :: s.records.flatMap listEntry

/-- Stage 5 of Read Record, in the order of R62. -/
def checkRead (s : State) (v : Nat × Nat) : Verdict (CaptureRecord × Nat) :=
  unlessOk (decide (s.readout.state = .idle)) .readoutBusy 0xFF <|
  match findRecord v.1 s with
  | none => refuse .noRecord 0xFF
  | some r =>
    unlessOk (!isOpen r) .notSealed 0xFF <|
    unlessOk (decide (v.2 < imageLength r)) .badOffset 0xFF (.ok (r, v.2))

/-- A readout starts: the record is READING and the source ACTIVE at the offset (R62). -/
def beginReadout (tag : Byte) (r : CaptureRecord) (offset : Nat) (s : State) : State :=
  { changeRecord r.number (fun x => { x with state := .reading }) s with
    readout := { state := .active, record := r.number, tag := tag, length := imageLength r, offset := offset } }

/-- The Read Record data (R207). -/
def readData (r : CaptureRecord) : List Byte :=
  lowFirst 2 r.number ++ lowFirst 2 (imageLength r) ++ [flagsByte r.flags]

/-- Stage 5 of Release Record (R47, R209). -/
def checkRelease (s : State) (n : Nat) : Verdict CaptureRecord :=
  match findRecord n s with
  | none => refuse .noRecord 0xFF
  | some r => unlessOk (!isOpen r) .notSealed 0xFF (.ok r)

/-- A record is released: a READING one only after its readout has ended with reason RELEASED (R47, R48). -/
def releaseRecord (r : CaptureRecord) (s : State) : State :=
  removeRecord r.number (if r.state = .reading then endReadout .released s else s)

/-- The numbers of the SEALED records, in table order (R49). -/
def sealedNumbers (s : State) : List Nat :=
  (s.records.filter fun r => decide (r.state = .closed)).map fun r => r.number

/-- Stage 5 of Acknowledge Alarm (R211). -/
def checkAcknowledge (s : State) (id : Byte) : Verdict Byte :=
  unlessOk (idInUse s.alarms id) .noAlarm 0xFF (.ok id)

end Sys2Proof.Machine
end

