-- ==== Sys2Proof/Machine/PartRequests.lean ====
section
/-! DEFINITION. IDENTIFY, GET_STATUS, READ_COUNTERS, READ_COUNTERS_CLEAR, SET_TIME, RESTART and UNKNOWN_REQUEST (11.4). -/

namespace Sys2Proof.Machine

/-- The effect of a request that changes nothing but gives data. -/
def reportOnly (data : State → List Byte) (s : State) : State × List Byte := (s, data s)

/-- Identify (R189). -/
def runIdentify (cut : Option PinLevels) (r : Request) (s : State) : State :=
  answer cut r (readNothing r.payload) (fun _ => reportOnly fun _ => identifyData) s

/-- IDENTIFY. -/
def execIdentify (s : State) : Host.Outcome State Fault Refusal := .next (takeEvent (carryOut (ofType 0x01) (runIdentify none)) s)

/-- Get Status (R190). -/
def runGetStatus (cut : Option PinLevels) (r : Request) (s : State) : State :=
  answer cut r (readNothing r.payload) (fun _ => reportOnly statusData) s

/-- GET_STATUS. -/
def execGetStatus (s : State) : Host.Outcome State Fault Refusal :=
  .next (takeEvent (carryOut (ofType 0x02) (runGetStatus none)) s)

/-- Read Counters, either row: the values as they stand, then the clear when the flag is on (R151, R193). -/
def runReadCounters (cut : Option PinLevels) (r : Request) (s : State) : State :=
  answer cut r (readByte 2 r.payload)
    (fun clear t => (if clear = 1 then clearCounters t else t, countersData t)) s

/-- A Read Counters that does not ask for the clear: flag 00h, or refused (R193, log 11). -/
def isReadCounters (r : Request) : Bool := ofType 0x03 r && !(r.payload == [1])

/-- READ_COUNTERS. -/
def execReadCounters (s : State) : Host.Outcome State Fault Refusal :=
  .next (takeEvent (carryOut isReadCounters (runReadCounters none)) s)

/-- A Read Counters that asks for the clear: flag 01h, or refused (R193, log 11). -/
def isReadCountersClear (r : Request) : Bool := ofType 0x03 r && !(r.payload == [0])

/-- READ_COUNTERS_CLEAR. -/
def execReadCountersClear (s : State) : Host.Outcome State Fault Refusal :=
  .next (takeEvent (carryOut isReadCountersClear (runReadCounters none)) s)

/-- The Timebase is replaced and counts on from the new value (R105). -/
def setTimebase (t : Time) (s : State) : State := { s with clock := { s.clock with timebase := t } }

/-- Set Time (R105, R192). -/
def runSetTime (cut : Option PinLevels) (r : Request) (s : State) : State :=
  answer cut r (readSetTime r.payload) (fun time t => (setTimebase time t, [])) s

/-- SET_TIME. -/
def execSetTime (s : State) : Host.Outcome State Fault Refusal := .next (takeEvent (carryOut (ofType 0x04) (runSetTime none)) s)

/-- Restart (R191): the reply is queued and the Dispatcher is RESTARTING. -/
def runRestart (cut : Option PinLevels) (r : Request) (s : State) : State :=
  match readNothing r.payload with
  | .error e => answerRefused cut r e s
  | .ok _ =>
    let t := queueReplyFrame { replyFrame r .ok [] with kind := .restartReply } s
    afterReply cut { t with dispatcher := { t.dispatcher with state := .restarting } }

/-- RESTART. -/
def execRestart (s : State) : Host.Outcome State Fault Refusal := .next (takeEvent (carryOut (ofType 0x05) (runRestart none)) s)

/-- A request of a type that is no request type: BAD_TYPE with the type as detail (R185, R186). -/
def runUnknown (cut : Option PinLevels) (r : Request) (s : State) : State := answerRefused cut r { status := .badType, detail := r.type } s

/-- UNKNOWN_REQUEST. -/
def execUnknownRequest (s : State) : Host.Outcome State Fault Refusal :=
  .next (takeEvent (carryOut isUnknown (runUnknown none)) s)

end Sys2Proof.Machine
end

