-- ==== Sys2Proof/Machine/AcquisitionRequests.lean ====
section
/-! DEFINITION. START_ACQUISITION, STOP_GRACEFUL, STOP_IMMEDIATE, CONVERT_ONCE and FORCE_CAPTURE (11.6). -/

namespace Sys2Proof.Machine

/-- Start Acquisition (R123 to R125, R202): the reply carries the Timebase value of the Start. -/
def runStart (cut : Option PinLevels) (r : Request) (s : State) : State :=
  answer cut r ((readNothing r.payload).bind fun _ => checkStart s)
    (fun _ t => (beginRun t, timeBytes t.clock.timebase)) s

/-- START_ACQUISITION. -/
def execStartAcquisition (s : State) : Host.Outcome State Fault Refusal :=
  .next (takeEvent (carryOut (ofType 0x20) (runStart none)) s)

/-- What a Stop does by acquisition state and mode (R126): GRACEFUL acts only while RUNNING, IMMEDIATE also while
DRAINING. -/
def stopEffect (mode : Byte) (s : State) : State :=
  match s.acquisition with
  | .idle => s
  | .running => if mode = 0 then stopGently s else stopNow s
  | .draining => if mode = 0 then s else stopNow s

/-- Whether a Stop takes acquisition straight to IDLE: IMMEDIATE while acquiring, GRACEFUL while RUNNING with no record
OPEN (R127, R129). -/
def stopReachesIdle (mode : Byte) (s : State) : Bool :=
  acquiring s && (!(mode == 0) || (decide (s.acquisition = .running) && !anyOpen s))

/-- The raw samples taken before a Stop that reaches IDLE have been delivered (R119, log 14). -/
def beforeStop (verdict : Verdict Byte) (s : State) : State :=
  match verdict with
  | .ok mode => if stopReachesIdle mode s then deliverAll s else s
  | .error _ => s

/-- Stop Acquisition, either mode (R126 to R129, R203): the reply data is the state when the Stop has been carried out. -/
def runStop (cut : Option PinLevels) (r : Request) (s : State) : State :=
  answer cut r (readStop r.payload)
    (fun mode t => (stopEffect mode t, [acquisitionByte (stopEffect mode t).acquisition]))
    (beforeStop (readStop r.payload) s)

/-- A Stop Acquisition that is not IMMEDIATE: mode 00h, or refused (R203, log 11). -/
def isStopGraceful (r : Request) : Bool := ofType 0x21 r && !(r.payload == [1])

/-- STOP_GRACEFUL. -/
def execStopGraceful (s : State) : Host.Outcome State Fault Refusal :=
  .next (takeEvent (carryOut isStopGraceful (runStop none)) s)

/-- A Stop Acquisition that is not GRACEFUL: mode 01h, or refused (R203, log 11). -/
def isStopImmediate (r : Request) : Bool := ofType 0x21 r && !(r.payload == [0])

/-- STOP_IMMEDIATE. -/
def execStopImmediate (s : State) : Host.Outcome State Fault Refusal :=
  .next (takeEvent (carryOut isStopImmediate (runStop none)) s)

/-- Convert Once (R100, R204): the reply carries the round start time. -/
def runConvertOnce (cut : Option PinLevels) (r : Request) (s : State) : State :=
  answer cut r ((readNothing r.payload).bind (checkConvert s))
    (fun _ t => (beginRound t, timeBytes t.clock.timebase)) s

/-- CONVERT_ONCE. -/
def execConvertOnce (s : State) : Host.Outcome State Fault Refusal :=
  .next (takeEvent (carryOut (ofType 0x22) (runConvertOnce none)) s)

/-- Force Capture (R89, R205): the FORCE trigger is decided as part of the request. -/
def runForceCapture (cut : Option PinLevels) (r : Request) (s : State) : State :=
  answer cut r ((readByte 4 r.payload).bind (checkForce s))
    (fun p t => ((decideTrigger (forceTrigger p t) t).1, outcomeData (decideTrigger (forceTrigger p t) t).2)) s

/-- FORCE_CAPTURE. -/
def execForceCapture (s : State) : Host.Outcome State Fault Refusal :=
  .next (takeEvent (carryOut (ofType 0x23) (runForceCapture none)) s)

end Sys2Proof.Machine
end

