-- ==== Sys2Proof/Machine/ConfigurationRequests.lean ====
section
/-! DEFINITION. The configuration requests, CONFIGURE_SCAN to READ_CONFIGURATION (11.5). -/

namespace Sys2Proof.Machine

/-- Configure Scan (R90, R194). -/
def runConfigureScan (cut : Option PinLevels) (r : Request) (s : State) : State :=
  answer cut r (onlyIdle s (readConfigureScan r.payload)) (fun slots t => ({ t with scan := slots }, [])) s

/-- CONFIGURE_SCAN. -/
def execConfigureScan (s : State) : Host.Outcome State Fault Refusal :=
  .next (takeEvent (carryOut (ofType 0x10) (runConfigureScan none)) s)

/-- Configure Stream (R107, R195). -/
def runConfigureStream (cut : Option PinLevels) (r : Request) (s : State) : State :=
  answer cut r (onlyIdle s (readConfigureStream r.payload))
    (fun v t => ({ t with streams := put t.streams v.1 v.2 }, [])) s

/-- CONFIGURE_STREAM. -/
def execConfigureStream (s : State) : Host.Outcome State Fault Refusal :=
  .next (takeEvent (carryOut (ofType 0x11) (runConfigureStream none)) s)

/-- Load Coefficients (R109, R110, R196). -/
def runLoadCoefficients (cut : Option PinLevels) (r : Request) (s : State) : State :=
  answer cut r ((readLoadCoefficients r.payload).bind (checkLoad s))
    (fun v t => ({ t with coefficients := put t.coefficients v.1 v.2 }, [])) s

/-- LOAD_COEFFICIENTS. -/
def execLoadCoefficients (s : State) : Host.Outcome State Fault Refusal :=
  .next (takeEvent (carryOut (ofType 0x12) (runLoadCoefficients none)) s)

/-- Configure Profile (R22, R197). -/
def runConfigureProfile (cut : Option PinLevels) (r : Request) (s : State) : State :=
  answer cut r (onlyIdle s (readConfigureProfile r.payload))
    (fun v t => ({ t with profiles := put t.profiles v.1 v.2 }, [])) s

/-- CONFIGURE_PROFILE. -/
def execConfigureProfile (s : State) : Host.Outcome State Fault Refusal :=
  .next (takeEvent (carryOut (ofType 0x13) (runConfigureProfile none)) s)

/-- Configure Watch (R82, R198): the reply data is the watch's new state. -/
def runConfigureWatch (cut : Option PinLevels) (r : Request) (s : State) : State :=
  answer cut r ((readConfigureWatch r.payload).bind (checkWatchEdit s))
    (fun v t =>
      (setWatch v.1 (freshWatch v.2 (editedState v.2.enabled t)) t, [watchStateByte (editedState v.2.enabled t)])) s

/-- CONFIGURE_WATCH. -/
def execConfigureWatch (s : State) : Host.Outcome State Fault Refusal :=
  .next (takeEvent (carryOut (ofType 0x14) (runConfigureWatch none)) s)

/-- Configure External Trigger (R88, R199): the reply data is the new state. -/
def runConfigureExternal (cut : Option PinLevels) (r : Request) (s : State) : State :=
  answer cut r ((readConfigureExternal r.payload).bind (checkExternalEdit s))
    (fun d t => ({ t with external := editedExternal d t }, [externalStateByte (editedExternal d t).state])) s

/-- CONFIGURE_EXTERNAL_TRIGGER. -/
def execConfigureExternalTrigger (s : State) : Host.Outcome State Fault Refusal :=
  .next (takeEvent (carryOut (ofType 0x15) (runConfigureExternal none)) s)

/-- Configure Acquisition (R121, R200). -/
def runConfigureAcquisition (cut : Option PinLevels) (r : Request) (s : State) : State :=
  answer cut r (onlyIdle s (readConfigureAcquisition r.payload)) (fun x t => ({ t with settings := x }, [])) s

/-- CONFIGURE_ACQUISITION. -/
def execConfigureAcquisition (s : State) : Host.Outcome State Fault Refusal :=
  .next (takeEvent (carryOut (ofType 0x16) (runConfigureAcquisition none)) s)

/-- Read Configuration (R201). -/
def runReadConfiguration (cut : Option PinLevels) (r : Request) (s : State) : State :=
  answer cut r (readReadConfiguration r.payload) (fun item => reportOnly (configurationData item)) s

/-- READ_CONFIGURATION. -/
def execReadConfiguration (s : State) : Host.Outcome State Fault Refusal :=
  .next (takeEvent (carryOut (ofType 0x17) (runReadConfiguration none)) s)

end Sys2Proof.Machine
end

