-- ==== Sys2Proof/Machine/LinkCommands.lean ====
section
/-! DEFINITION. RX_CHARACTER, INTER_CHARACTER_TIMEOUT and TX_CHARACTER_BOUNDARY. -/

namespace Sys2Proof.Machine

/-- RX_CHARACTER (R153, R160 to R162). -/
def execRxCharacter (c : RxCharacter) (s : State) : Host.Outcome State Fault Refusal :=
  .next (takeEvent (receiveCharacter c) s)

/-- INTER_CHARACTER_TIMEOUT (R163). -/
def execInterCharacterTimeout (s : State) : Host.Outcome State Fault Refusal := .next (takeEvent receiveTimeout s)

/-- The stop bit of the character on the line ends, after the time left of it (R173, log 3); an idle line has no
boundary. -/
def takeBoundary (pins : PinLevels) (s : State) : State :=
  match s.transmit.line with
  | some just => characterBoundary just pins (elapse s.transmit.lineTime s)
  | none => s

/-- TX_CHARACTER_BOUNDARY (R173 to R181). -/
def execTxCharacterBoundary (pins : PinLevels) (s : State) : Host.Outcome State Fault Refusal :=
  .next (takeEvent (takeBoundary pins) s)

end Sys2Proof.Machine
end

