-- ==== Sys2Proof/Machine/RecordRequests.lean ====
section
/-! DEFINITION. LIST_RECORDS, READ_RECORD, CANCEL_READOUT, RELEASE_RECORD, RELEASE_ALL_SEALED and ACKNOWLEDGE_ALARM
(11.7, 11.8). -/

namespace Sys2Proof.Machine

/-- List Records (R206). -/
def runListRecords (cut : Option PinLevels) (r : Request) (s : State) : State :=
  answer cut r (readNothing r.payload) (fun _ => reportOnly listData) s

/-- LIST_RECORDS. -/
def execListRecords (s : State) : Host.Outcome State Fault Refusal :=
  .next (takeEvent (carryOut (ofType 0x30) (runListRecords none)) s)

/-- Read Record (R62, R207): the reply carries the record's flags, and the readout starts. A link reset taken right after
the reply finds the source ACTIVE and ends the readout with READOUT_ENDED (LINK_RESET) (DESIGN CHOICE, log 26). -/
def runReadRecord (cut : Option PinLevels) (r : Request) (s : State) : State :=
  answer cut r ((readReadRecord r.payload).bind (checkRead s))
    (fun v t => (beginReadout r.tag v.1 v.2 t, readData v.1)) s

/-- READ_RECORD. -/
def execReadRecord (s : State) : Host.Outcome State Fault Refusal :=
  .next (takeEvent (carryOut (ofType 0x31) (runReadRecord none)) s)

/-- Stage 5 of Cancel Readout: NO_READOUT when the source is IDLE (R208). -/
def checkCancel (s : State) (u : Unit) : Verdict Unit :=
  unlessOk (!decide (s.readout.state = .idle)) .noReadout 0xFF (.ok u)

/-- Cancel Readout (R65, R208). -/
def runCancelReadout (cut : Option PinLevels) (r : Request) (s : State) : State :=
  answer cut r ((readNothing r.payload).bind (checkCancel s)) (fun _ t => (endReadout .cancelled t, [])) s

/-- CANCEL_READOUT. -/
def execCancelReadout (s : State) : Host.Outcome State Fault Refusal :=
  .next (takeEvent (carryOut (ofType 0x32) (runCancelReadout none)) s)

/-- Release Record (R47, R48, R209). -/
def runReleaseRecord (cut : Option PinLevels) (r : Request) (s : State) : State :=
  answer cut r ((readRecordNumber r.payload).bind (checkRelease s)) (fun x t => (releaseRecord x t, [])) s

/-- RELEASE_RECORD. -/
def execReleaseRecord (s : State) : Host.Outcome State Fault Refusal :=
  .next (takeEvent (carryOut (ofType 0x33) (runReleaseRecord none)) s)

/-- Every SEALED record is removed, in table order (R49). -/
def releaseSealed (s : State) : State := (sealedNumbers s).foldl (fun t n => removeRecord n t) s

/-- Release All Sealed (R49, R210): the reply data is the number removed. -/
def runReleaseAllSealed (cut : Option PinLevels) (r : Request) (s : State) : State :=
  answer cut r (readNothing r.payload) (fun _ t => (releaseSealed t, [byteOf (sealedNumbers t).length])) s

/-- RELEASE_ALL_SEALED. -/
def execReleaseAllSealed (s : State) : Host.Outcome State Fault Refusal :=
  .next (takeEvent (carryOut (ofType 0x34) (runReleaseAllSealed none)) s)

/-- Acknowledge Alarm (R141, R211). -/
def runAcknowledgeAlarm (cut : Option PinLevels) (r : Request) (s : State) : State :=
  answer cut r ((readByte 256 r.payload).bind (checkAcknowledge s)) (fun id t => (acknowledge id t, [])) s

/-- ACKNOWLEDGE_ALARM. -/
def execAcknowledgeAlarm (s : State) : Host.Outcome State Fault Refusal :=
  .next (takeEvent (carryOut (ofType 0x38) (runAcknowledgeAlarm none)) s)

end Sys2Proof.Machine
end

