-- ==== Sys2Proof/Machine/Interruption.lean ====
section
/-! DEFINITION. A link reset taken between the queuing of a request's reply and the offer of the notices it holds (R188). -/

namespace Sys2Proof.Machine

/-- A request carried out by its type (R185). -/
def runRequest (cut : Option PinLevels) (r : Request) (s : State) : State :=
  match r.type.toNat with
  | 0x01 => runIdentify cut r s
  | 0x02 => runGetStatus cut r s
  | 0x03 => runReadCounters cut r s
  | 0x04 => runSetTime cut r s
  | 0x05 => runRestart cut r s
  | 0x10 => runConfigureScan cut r s
  | 0x11 => runConfigureStream cut r s
  | 0x12 => runLoadCoefficients cut r s
  | 0x13 => runConfigureProfile cut r s
  | 0x14 => runConfigureWatch cut r s
  | 0x15 => runConfigureExternal cut r s
  | 0x16 => runConfigureAcquisition cut r s
  | 0x17 => runReadConfiguration cut r s
  | 0x20 => runStart cut r s
  | 0x21 => runStop cut r s
  | 0x22 => runConvertOnce cut r s
  | 0x23 => runForceCapture cut r s
  | 0x30 => runListRecords cut r s
  | 0x31 => runReadRecord cut r s
  | 0x32 => runCancelReadout cut r s
  | 0x33 => runReleaseRecord cut r s
  | 0x34 => runReleaseAllSealed cut r s
  | 0x38 => runAcknowledgeAlarm cut r s
  | _ => runUnknown cut r s

/-- The request in execution is carried out with the link reset taken right after its reply; with none in execution the
link reset is taken alone (R168, R188; log 26). -/
def interruptRequest (pins : PinLevels) (s : State) : State :=
  match s.dispatcher.state with
  | .executing r => runRequest (some pins) r s
  | .free => linkReset pins s
  | .restarting => linkReset pins s

end Sys2Proof.Machine
end

