-- ==== Sys2Proof/Machine/ResetCommands.lean ====
section
/-! DEFINITION. POWER_ON_RESET, PIN_RESET, PIN_RESET_END, BREAK and BREAK_END. -/

namespace Sys2Proof.Machine

/-- POWER_ON_RESET (R221): every block takes its reset values whatever the state, the straps are sampled and RESTARTED
(POWER) is queued. -/
def execPowerOnReset (pins : PinLevels) (s : State) : Host.Outcome State Fault Refusal :=
  .next (conclude (endReset .power pins s))

/-- PIN_RESET (R221, R181): with a frame in transmission ABORT goes first; otherwise the blocks enter reset at once. -/
def takePinReset (s : State) : State :=
  if inTransmission s then
    { tellAbort s with resetting := { pinLow := true, held := false, awaited := some .pin } }
  else enterReset s

/-- PIN_RESET. -/
def execPinReset (s : State) : Host.Outcome State Fault Refusal := .next (takeEvent takePinReset s)

/-- RESET rises while the blocks are not held: an ABORT that is still awaited goes on (R221). -/
def raiseResetPin (s : State) : State := { s with resetting := { s.resetting with pinLow := false } }

/-- PIN_RESET_END (R221): a held reset ends and RESTARTED (PIN) is queued; before the ABORT has been sent the rise does
not end the reset. -/
def execPinResetEnd (pins : PinLevels) (s : State) : Host.Outcome State Fault Refusal :=
  if s.resetting.held then .next (conclude (endReset .pin pins s)) else .next (takeEvent raiseResetPin s)

/-- A break ends a frame that is being received with a framing error and then causes a link reset, except while the break
mark is set (R166). -/
def takeBreak (taken : LineBreak) (s : State) : State :=
  if s.receiver.breakMark then s
  else
    match taken.moment with
    | .alone => linkReset taken.pins (endBrokenFrame s)
    | .afterReply => interruptRequest taken.pins (endBrokenFrame s)

/-- BREAK (R166, R167, R188). -/
def execLineBreak (taken : LineBreak) (s : State) : Host.Outcome State Fault Refusal := .next (takeEvent (takeBreak taken) s)

/-- RXD goes high: the break mark is cleared (R169). -/
def clearBreakMark (s : State) : State := { s with receiver := { s.receiver with breakMark := false } }

/-- BREAK_END (R169). -/
def execLineBreakEnd (s : State) : Host.Outcome State Fault Refusal := .next (takeEvent clearBreakMark s)

end Sys2Proof.Machine
end

