-- ==== Sys2Proof/Machine/SampleCommands.lean ====
section
/-! DEFINITION. PACER_EXPIRY, CONV_IN_EDGE, CONVERSION_COMPLETE, DECIMATION_OUTPUT and POST_COUNT_REACHED. -/

namespace Sys2Proof.Machine

/-- The next expiry follows one period after this one, however late it is taken (R98). -/
def rearmPacer : Pacer → Pacer
  | .running period remaining => .running period (remaining + period)
  | .stopped => .stopped

/-- The pacer expires: a start event (R98); the time to the expiry passes first (log 3). -/
def expirePacer (s : State) : State :=
  match s.pacer with
  | .running _ remaining =>
    let t := elapse remaining.toNat s
    startEvent { t with pacer := rearmPacer t.pacer }
  | .stopped => s

/-- PACER_EXPIRY (R95, R97, R98). -/
def execPacerExpiry (s : State) : Host.Outcome State Fault Refusal := .next (takeEvent expirePacer s)

/-- The level that an edge leads to (R222). -/
def edgeLevel : Edge → Level
  | .rising => .high
  | .falling => .low

/-- An edge on CONV_IN is accepted: its level changes, and a rising edge under EXTERNAL while RUNNING or DRAINING is a
start event (R99, R222). A level that is already accepted makes no edge. -/
def takeConvIn (edge : Edge) (s : State) : State :=
  if s.pins.convIn = edgeLevel edge then s
  else
    let t := { s with pins := { s.pins with convIn := edgeLevel edge } }
    if decide (edge = .rising) && decide (s.settings.source = .external) && acquiring s then startEvent t else t

/-- CONV_IN_EDGE (R95, R97, R99). -/
def execConvInEdge (edge : Edge) (s : State) : Host.Outcome State Fault Refusal := .next (takeEvent (takeConvIn edge) s)

/-- The conversion in progress completes, after the time left of it (R91, log 3). -/
def finishConversion (level : Nat) (s : State) : State :=
  match s.round with
  | .inRound start k remaining => completeConversion start k (min remaining 0) level (elapse remaining.toNat s)
  | .noRound => s

/-- The stream's earlier output, if it is still due, is delivered before the Filter Bank takes its next raw sample (R117,
log 14); then the conversion completes. -/
def takeConversion (level : Nat) (s : State) : State :=
  match s.round with
  | .inRound _ k _ => finishConversion level (takeDueOutput k s)
  | .noRound => s

/-- CONVERSION_COMPLETE (R92, R93, R96, R113). -/
def execConversionComplete (level : Nat) (s : State) : Host.Outcome State Fault Refusal :=
  .next (takeEvent (takeConversion level) s)

/-- DECIMATION_OUTPUT (R113 to R117, R8). -/
def execDecimationOutput (k : Fin 16) (s : State) : Host.Outcome State Fault Refusal := .next (takeEvent (takeOutput k) s)

/-- POST_COUNT_REACHED (R39 to R43). -/
def execPostCountReached (k : Fin 16) (s : State) : Host.Outcome State Fault Refusal :=
  .next (takeDueStep (reachPostCount k) s)

end Sys2Proof.Machine
end

