-- ==== Sys2Proof/Machine/TriggerCommands.lean ====
section
/-! DEFINITION. WATCH_FIRE, WATCH_HOLDOFF_END, TRIG_IN_EDGE, EXTERNAL_HOLDOFF_EXPIRY, TRIG_OUT_PULSE_END, TRIGGER,
ALARM_REQUEST and ACKNOWLEDGEMENT_TIMER_EXPIRY. -/

namespace Sys2Proof.Machine

/-- A watch fires after the store stage of its sample is settled (R8, R75). -/
def takeWatchFire (w : Fin 8) (s : State) : State := fireWatch w (settlePostCounts s)

/-- WATCH_FIRE (R75, R76). -/
def execWatchFire (w : Fin 8) (s : State) : Host.Outcome State Fault Refusal := .next (takeDueStep (takeWatchFire w) s)

/-- A watch's holdoff ends after the store stage of the sample is settled (R8, R77). -/
def takeHoldoffEnd (w : Fin 8) (s : State) : State := endHoldoff w (settlePostCounts s)

/-- WATCH_HOLDOFF_END (R77). -/
def execWatchHoldoffEnd (w : Fin 8) (s : State) : Host.Outcome State Fault Refusal :=
  .next (takeDueStep (takeHoldoffEnd w) s)

/-- An edge on TRIG_IN is accepted: its level changes, and an edge of the selected direction fires an ARMED external
trigger; every other edge is ignored (R86, R222). -/
def takeTrigIn (edge : Edge) (s : State) : State :=
  if s.pins.trigIn = edgeLevel edge then s
  else
    let t := { s with pins := { s.pins with trigIn := edgeLevel edge } }
    if decide (s.external.state = .armed) && decide (s.external.definition.edge = edge) then fireExternal t else t

/-- TRIG_IN_EDGE (R86). -/
def execTrigInEdge (edge : Edge) (s : State) : Host.Outcome State Fault Refusal := .next (takeEvent (takeTrigIn edge) s)

/-- The holdoff timer expires in HOLDOFF, after the time left of it (R87, log 3). -/
def expireExternalHoldoff (s : State) : State :=
  match s.external.state with
  | .holdoff remaining =>
    let t := elapse remaining s
    { t with external := { t.external with state := .armed } }
  | .armed => s
  | .disarmed => s

/-- EXTERNAL_HOLDOFF_EXPIRY (R87). -/
def execExternalHoldoffExpiry (s : State) : Host.Outcome State Fault Refusal :=
  .next (takeEvent expireExternalHoldoff s)

/-- The pulse on TRIG_OUT ends, after the time left of it (R34, log 3). -/
def endTrigOutPulse (s : State) : State :=
  match s.pins.trigOut with
  | some left =>
    let t := elapse left s
    { t with pins := { t.pins with trigOut := none } }
  | none => s

/-- TRIG_OUT_PULSE_END (R34). -/
def execTrigOutPulseEnd (s : State) : Host.Outcome State Fault Refusal := .next (takeEvent endTrigOutPulse s)

/-- The Capture Manager takes one of the triggers on their way (R24). -/
def takeTriggerAt (position : Nat) (s : State) : State :=
  match s.triggers[position]? with
  | some t => takeTrigger t { s with triggers := s.triggers.eraseIdx position }
  | none => s

/-- TRIGGER (R24 to R34). -/
def execTrigger (position : Nat) (s : State) : Host.Outcome State Fault Refusal :=
  .next (takeEvent (takeTriggerAt position) s)

/-- The Alarm Unit takes one of the alarm requests on their way (R135). -/
def takeAlarmRequestAt (position : Nat) (s : State) : State :=
  match s.alarmRequests[position]? with
  | some r => takeAlarmRequest r { s with alarmRequests := s.alarmRequests.eraseIdx position }
  | none => s

/-- ALARM_REQUEST (R135 to R137). -/
def execAlarmRequest (position : Nat) (s : State) : Host.Outcome State Fault Refusal :=
  .next (takeEvent (takeAlarmRequestAt position) s)

/-- The acknowledgement timer of the WAITING entry with an id expires, after the time left of it (R139, log 3). -/
def takeAlarmExpiry (id : Byte) (s : State) : State :=
  match findAlarm id s with
  | some e =>
    match e.state with
    | .waiting remaining => expireAcknowledgement e (elapse remaining s)
    | .pending => s
    | .queued => s
  | none => s

/-- ACKNOWLEDGEMENT_TIMER_EXPIRY (R139, R140). -/
def execAcknowledgementTimerExpiry (id : Byte) (s : State) : Host.Outcome State Fault Refusal :=
  .next (takeEvent (takeAlarmExpiry id) s)

end Sys2Proof.Machine
end

