-- ==== Sys2Proof/Machine/Dispatch.lean ====
section
/-! DEFINITION. The meaning of every command: one arm per row of spec/opcode_table.json. -/

namespace Sys2Proof.Machine

/-- The effect of a command on everything but the queue. -/
def exec (i : Instr) (s : State) : Host.Outcome State Fault Refusal :=
  match i with
  | .powerOnReset pins => Sys2Proof.Machine.execPowerOnReset pins s
  | .pinReset => Sys2Proof.Machine.execPinReset s
  | .pinResetEnd pins => Sys2Proof.Machine.execPinResetEnd pins s
  | .lineBreak taken => Sys2Proof.Machine.execLineBreak taken s
  | .lineBreakEnd => Sys2Proof.Machine.execLineBreakEnd s
  | .rxCharacter c => Sys2Proof.Machine.execRxCharacter c s
  | .interCharacterTimeout => Sys2Proof.Machine.execInterCharacterTimeout s
  | .txCharacterBoundary pins => Sys2Proof.Machine.execTxCharacterBoundary pins s
  | .pacerExpiry => Sys2Proof.Machine.execPacerExpiry s
  | .convInEdge edge => Sys2Proof.Machine.execConvInEdge edge s
  | .conversionComplete level => Sys2Proof.Machine.execConversionComplete level s
  | .decimationOutput stream => Sys2Proof.Machine.execDecimationOutput stream s
  | .postCountReached stream => Sys2Proof.Machine.execPostCountReached stream s
  | .watchFire watch => Sys2Proof.Machine.execWatchFire watch s
  | .watchHoldoffEnd watch => Sys2Proof.Machine.execWatchHoldoffEnd watch s
  | .trigInEdge edge => Sys2Proof.Machine.execTrigInEdge edge s
  | .externalHoldoffExpiry => Sys2Proof.Machine.execExternalHoldoffExpiry s
  | .trigOutPulseEnd => Sys2Proof.Machine.execTrigOutPulseEnd s
  | .trigger position => Sys2Proof.Machine.execTrigger position s
  | .alarmRequest position => Sys2Proof.Machine.execAlarmRequest position s
  | .acknowledgementTimerExpiry alarmId => Sys2Proof.Machine.execAcknowledgementTimerExpiry alarmId s
  | .identify => Sys2Proof.Machine.execIdentify s
  | .getStatus => Sys2Proof.Machine.execGetStatus s
  | .readCounters => Sys2Proof.Machine.execReadCounters s
  | .readCountersClear => Sys2Proof.Machine.execReadCountersClear s
  | .setTime => Sys2Proof.Machine.execSetTime s
  | .restart => Sys2Proof.Machine.execRestart s
  | .configureScan => Sys2Proof.Machine.execConfigureScan s
  | .configureStream => Sys2Proof.Machine.execConfigureStream s
  | .loadCoefficients => Sys2Proof.Machine.execLoadCoefficients s
  | .configureProfile => Sys2Proof.Machine.execConfigureProfile s
  | .configureWatch => Sys2Proof.Machine.execConfigureWatch s
  | .configureExternalTrigger => Sys2Proof.Machine.execConfigureExternalTrigger s
  | .configureAcquisition => Sys2Proof.Machine.execConfigureAcquisition s
  | .readConfiguration => Sys2Proof.Machine.execReadConfiguration s
  | .startAcquisition => Sys2Proof.Machine.execStartAcquisition s
  | .stopGraceful => Sys2Proof.Machine.execStopGraceful s
  | .stopImmediate => Sys2Proof.Machine.execStopImmediate s
  | .convertOnce => Sys2Proof.Machine.execConvertOnce s
  | .forceCapture => Sys2Proof.Machine.execForceCapture s
  | .listRecords => Sys2Proof.Machine.execListRecords s
  | .readRecord => Sys2Proof.Machine.execReadRecord s
  | .cancelReadout => Sys2Proof.Machine.execCancelReadout s
  | .releaseRecord => Sys2Proof.Machine.execReleaseRecord s
  | .releaseAllSealed => Sys2Proof.Machine.execReleaseAllSealed s
  | .acknowledgeAlarm => Sys2Proof.Machine.execAcknowledgeAlarm s
  | .unknownRequest => Sys2Proof.Machine.execUnknownRequest s

end Sys2Proof.Machine
end

