-- ==== Sys2Proof/Machine/Step.lean ====
section
/-! DEFINITION. One step of the part: the command at the front of the queue, or one microsecond on an empty queue. -/

namespace Sys2Proof.Machine

/-- Nothing is commanded: what the last delivery left due is taken, and one microsecond passes (R103; DESIGN CHOICE,
log 2). While the blocks are held in reset the Timebase stays at 0 and nothing passes (R221). -/
def passMicrosecond (s : State) : State :=
  if s.resetting.held then s else conclude (elapse (microseconds 1) (settle s))

/-- The command at the front of the queue is taken, with the queue's rest; on an empty queue one microsecond passes. -/
def step (s : State) : Host.Outcome State Fault Refusal :=
  match s.pending with
  | c :: rest => exec c { s with pending := rest }
  | [] => .next (passMicrosecond s)

/-- The command that a word spells put at the front of the queue; no word of this part spells one. -/
def State.withFetchWord (s : State) (nbits w : Nat) : State :=
  match decodeTableWord nbits w with
  | some c => { s with pending := c :: s.pending }
  | none => s

end Sys2Proof.Machine
end

