-- ==== Sys2Proof/Safety.lean ====
section
/-! DEFINITION. The terms that claims use: the invariants of a sound part, and the shape of a step's answer. -/

namespace Sys2Proof.Machine

/-! ## Invariants -/

/-- The numbers of the pages of some page runs. -/
def runPages (runs : List PageRun) : List Nat := (runs.flatMap fun r => r.pages).map fun p => p.number

/-- Every page of the part, owner by owner: the free list, the history rings, the stream parts of the records (R1). -/
def ownedPages (s : State) : List Nat :=
  (s.free.map fun p => p.number) ++ runPages (s.rings.toList.map fun r => r.run)
    ++ runPages ((s.records.flatMap fun r => r.parts).map fun p => p.run)

/-- Each of the 192 pages has one owner (R1). -/
abbrev PagesConserved (s : State) : Prop := (ownedPages s).Perm (List.range pageTotal)

/-- The numbers of the records in the table. -/
def recordNumbers (s : State) : List Nat := s.records.map fun r => r.number

/-- At most 32 records, with distinct numbers in 1 to 65535, and a next record number in 1 to 65535 (R33, R46). -/
abbrev RecordNumbersSound (s : State) : Prop :=
  s.records.length ≤ recordTotal ∧ (recordNumbers s).Nodup
    ∧ (∀ n ∈ recordNumbers s, 1 ≤ n ∧ n ≤ 65535) ∧ 1 ≤ s.nextRecord ∧ s.nextRecord ≤ 65535

/-- Whether a record is READING. -/
def isReading (r : CaptureRecord) : Bool := decide (r.state = .reading)

/-- The READING records are exactly the record that an active readout names (R61). -/
abbrev ReadingMatchesReadout (s : State) : Prop :=
  ((s.records.filter isReading).map fun r => r.number)
    = if s.readout.state = .idle then [] else [s.readout.record]

/-- The record table is sound, and at most one record is READING: the one being read out (R33, R46, R61). -/
abbrev RecordTableSound (s : State) : Prop := RecordNumbersSound s ∧ ReadingMatchesReadout s

/-- The streams of a record's parts are distinct (R35, R37). -/
abbrev PartsDistinct (r : CaptureRecord) : Prop := (r.parts.map fun p => p.stream).Nodup

/-- Nothing acquires: no record is OPEN, every ring is empty, every sink is NONE, no round is in progress and the pacer
is STOPPED (R9, R19, R44, R101). -/
abbrev Quiet (s : State) : Prop :=
  anyOpen s = false ∧ (∀ k : Fin 16, s.rings[k].run.pages = [] ∧ s.sinks[k] = .none) ∧ s.round = .noRound
    ∧ s.pacer = .stopped

/-- While acquisition is IDLE the part is quiet; the table is sound and no record holds two parts of one stream. -/
abbrev IdleIsQuiet (s : State) : Prop :=
  RecordNumbersSound s ∧ (∀ r ∈ s.records, PartsDistinct r) ∧ (s.acquisition = .idle → Quiet s)

/-- What a watch may be in a state of acquisition: other than DISARMED only while RUNNING and enabled (R81), and due to
fire only when not DISARMED. -/
abbrev WatchArmedSoundly (running : Prop) (w : Watch) : Prop :=
  (w.state ≠ .disarmed → running ∧ w.definition.enabled = true) ∧ (w.state = .disarmed → w.firing = none)

/-- A watch or the external trigger is in a state other than DISARMED only while acquisition is RUNNING and it is enabled
(R81). -/
abbrev ArmedOnlyWhileRunning (s : State) : Prop :=
  (∀ w : Fin 8, WatchArmedSoundly (s.acquisition = .running) s.watches[w])
    ∧ (s.external.state ≠ .disarmed → s.acquisition = .running ∧ s.external.definition.enabled = true)

/-- Whether an alarm entry is WAITING. -/
def isWaiting (e : AlarmEntry) : Bool :=
  match e.state with
  | .waiting _ => true
  | .pending => false
  | .queued => false

/-- No send count exceeds 3, and an entry still to be sent has been sent at most twice (R134, R139). -/
abbrev SendsBounded (e : AlarmEntry) : Prop := e.sendCount ≤ sendTotal ∧ (isWaiting e = false → e.sendCount < sendTotal)

/-- The alarm list holds at most 8 entries with distinct ids (R134, R135). -/
abbrev AlarmListSound (s : State) : Prop :=
  s.alarms.length ≤ alarmTotal ∧ (s.alarms.map fun e => e.id).Nodup ∧ (∀ e ∈ s.alarms, SendsBounded e)
    ∧ s.dropCount ≤ dropMaximum

/-- Whether a request is in execution (R183). -/
def isExecuting (s : State) : Bool :=
  match s.dispatcher.state with
  | .executing _ => true
  | .free => false
  | .restarting => false

/-- The queues hold at most 4 requests, 4 URGENT frames and 8 NORMAL frames; a request in execution finds a place for its
reply, and left at most 3 requests behind it (R165, R171, R184, R190). -/
abbrev QueuesBounded (s : State) : Prop :=
  s.inbound.length ≤ inboundTotal ∧ s.transmit.urgent.length ≤ urgentTotal ∧ s.transmit.normal.length ≤ normalTotal
    ∧ (isExecuting s = true → s.transmit.normal.length < normalTotal) ∧ s.dispatcher.behind < inboundTotal

/-- Every counter lies in 0 to 65535 (R148), every retrigger list holds at most 4 entries (R27), and the part of the
current microsecond that has passed is less than a microsecond (log 5). -/
abbrev CountsBounded (s : State) : Prop :=
  (∀ i : Fin 16, s.counters[i].value ≤ counterMaximum) ∧ (∀ r ∈ s.records, r.retriggers.length ≤ retriggerTotal)
    ∧ s.clock.phase < unitsPerMicrosecond

/-- The ranks of the classes of the frames on a stack of transmissions, top first (R170). -/
def stackRanks (stack : List Transmission) : List Nat := stack.map fun t => classRank (frameClass t.frame)

/-- The frames in transmission, the one being sent first and then the stack from its top (R174). -/
def inTransmissionOrder (s : State) : List Transmission := s.transmit.sending.toList ++ s.transmit.suspended

/-- Each frame in transmission is of strictly higher class than the one beneath it (R174), at most 2 are suspended, and
each queue holds frames of its own class (R170). -/
abbrev NestingLegal (s : State) : Prop :=
  (stackRanks (inTransmissionOrder s)).Pairwise (· > ·) ∧ s.transmit.suspended.length ≤ 2
    ∧ (∀ f ∈ s.transmit.urgent, frameClass f = .urgent) ∧ (∀ f ∈ s.transmit.normal, frameClass f = .normal)

/-! ## The shape of an answer -/

/-- The part is not held in reset: events are taken (R221). -/
abbrev Live (s : State) : Prop := s.resetting.held = false

/-- No step that a delivery leaves due is still to be taken: no post count reached, no watch to fire, no holdoff to end
(log 1). -/
abbrev NothingDue (s : State) : Prop :=
  (∀ k : Fin 16, postCountDue k s = none)
    ∧ ∀ w : Fin 8, s.watches[w].firing = none ∧ holdoffEndDue w s = false

/-- An event is taken from a live state `s`: `u` is what it finds, once the steps that the last delivery left due have
been taken (log 1). -/
abbrev Finds (s u : State) : Prop := Live s ∧ settle s = u

/-- A request in execution is carried out in the state `u` (R184). -/
abbrev FindsRequest (r : Request) (s u : State) : Prop := Finds s u ∧ u.dispatcher.state = .executing r

/-- A reply at the end of the NORMAL queue, begun at once on an idle line, with the Dispatcher in a state (R171, R173;
log 12). -/
def withReply (f : Frame) (d : Dispatcher) (s : State) : State :=
  { decideIdle { s with transmit := { s.transmit with normal := s.transmit.normal ++ [f] } } with dispatcher := d }

/-- The state after a request has been carried out: its reply OK has joined the NORMAL queue, the Dispatcher is FREE and
holds nothing (R184, R187). -/
def replied (r : Request) (data : List Byte) (s : State) : State :=
  withReply (replyFrame r .ok data) { s.dispatcher with state := .free, held := none } s

/-- The state after a request has been refused: the status and the detail are the reply, and nothing else changes
(R185 to R187). -/
def refusedWith (r : Request) (status : Status) (detail : Byte) (s : State) : State :=
  withReply (replyFrame r status [detail]) { s.dispatcher with state := .free } s

/-- The state after some notices have been offered to the NORMAL queue in turn (R145, R188). -/
def offered (notices : List Notice) (s : State) : State := notices.foldl (fun t n => offerNotice n t) s

/-- The part as a reset leaves it: every block at its reset value, the straps and pins sampled, and the OPEN of the
RESTARTED notice on TXD (R146, R153, R182, R222). The queue of commands and the free values drawn stay (log 9). -/
def afterReset (cause : RestartCause) (pins : PinLevels) (s : State) : State :=
  { State.reset with
    pending := s.pending
    draws := s.draws
    pins := { convIn := pins.convIn, trigIn := pins.trigIn, trigOut := none }
    transmit := { resetTransmit (strappedRate pins) with
      sending := some { frame := noticeFrame (.restarted cause),
                        unsent := (frameCharacters (noticeFrame (.restarted cause))).tail }
      line := some charOpen
      lineTime := characterTime (strappedRate pins) } }

/-- The part held in reset (R221). -/
def heldInReset (s : State) : State :=
  { State.reset with
    pending := s.pending, draws := s.draws, resetting := { pinLow := true, held := true, awaited := none } }

/-- A character on TXD, for one character time (R153). -/
def onLine (c : Byte) (t : TransmitUnit) : TransmitUnit := { t with line := some c, lineTime := characterTime t.rate }

/-- Every watch and the external trigger DISARMED with fresh working values (R81, R88). -/
def disarmed (s : State) : State :=
  { s with
    watches := s.watches.map fun w =>
      { w with state := .disarmed, qualifyCount := 0, holdoffCount := 0, previous := none, firing := none }
    external := { s.external with state := .disarmed } }

/-- The pages of every ring, in ascending stream number and head first, as they stand on the free list (R2, R19). -/
def ringPages (s : State) : List Page := (s.rings.toList.flatMap fun r => r.run.pages).map blankPage

/-- The part after the steps of R130, before its notice: IDLE, disarmed, no round, the pacer STOPPED, rings and sinks
closed down. -/
def quieted (s : State) : State :=
  { disarmed s with
    acquisition := .idle, round := .noRound, pacer := .stopped, free := s.free ++ ringPages s,
    rings := Vector.replicate 16 emptyRing, sinks := Vector.replicate 16 .none }

/-- The state that a Stop which reaches IDLE finds: every output that is due has been made and delivered, in ascending
stream number, each an event of its own with the steps it leaves due (R119; log 14, the model's reading). -/
def outputsTaken (s : State) : State :=
  (List.finRange 16).foldl (fun v k => if v.filters[k].due = none then v else settle (conclude (takeOutput k v))) s

/-- The state in which the steps of R130 find the part at the end of a drain: every output that is due has been made and
delivered, in ascending stream number, each an event of its own (R119; log 14, the model's reading). -/
def outstandingDelivered (s : State) : State :=
  (List.finRange 16).foldl
    (fun v k => if v.filters[k].due = none then v else settleWatches (conclude (deliver k (conclude v)))) s

/-- A trigger that leaves the list of those on their way. -/
def withoutTrigger (position : Nat) (s : State) : State := { s with triggers := s.triggers.eraseIdx position }

/-- The alarm request that a trigger with its alarm flag on makes with its outcome (R25, R76). -/
def alarmOf (t : Trigger) (record : Option Nat) : List AlarmRequest :=
  if t.alarm then [{ source := t.source, time := t.time, value := t.sample.map fun x => x.value, record := record }]
  else []

/-! ## A break and the link reset (R166 to R168) -/

/-- The state in which a break is acted on: a frame that was being received has ended with a framing error, an event of its
own, because the first character of a break is a character error (R166). -/
def brokenInto (s : State) : State :=
  if s.receiver.state = .hunt then s
  else conclude (countUp .rxFraming
    { s with receiver := { state := .hunt, content := [], expected := none, timer := none,
                           breakMark := s.receiver.breakMark } })

/-- The replies that a link reset discards (R167). -/
def lostReplies (s : State) : Nat := ((discardedFrames s).filter isReply).length

/-- The part after steps 1 to 6 of a link reset, with a Restart whose reply is discarded awaited (R143, R167, R168, R180).
Everything that is not named is unchanged. -/
def afterLinkReset (s : State) : State :=
  { s with
    receiver := { state := .hunt, content := [], expected := none, timer := none, breakMark := true }
    inbound := []
    transmit := { s.transmit with
      urgent := []
      normal := (Notice.restarted .link ::
          ((if s.readout.state = .idle then []
            else [.readoutEnded s.readout.record .linkReset (resumeOffset .linkReset s)])
          ++ (if s.counters[15].value = 0 ∧ 0 < lostReplies s then [.fault .replyDiscarded s.clock.timebase]
              else []))).map noticeFrame
      sending := none, suspended := [], bulk := none
      tail := if inTransmission s && !aborting s then abortTail s else s.transmit.tail }
    alarms := s.alarms.map requeueAlarm
    dropCount := min 255 (s.dropCount + ((discardedFrames s).map carriedDrops).sum)
    records := if s.readout.state = .idle then s.records
      else changeFirst (fun r => r.number == s.readout.record) (fun r => { r with state := .closed }) s.records
    readout := if s.readout.state = .idle then s.readout else resetReadout
    counters := put
      (put s.counters 15
        { value := saturatingUp^[lostReplies s] s.counters[15].value
          mark := if s.counters[15].value = 0 ∧ 0 < lostReplies s then .reported else s.counters[15].mark }) 14
      { value := saturatingUp s.counters[14].value
        mark := if s.counters[14].value = 0 then .reported else s.counters[14].mark }
    dispatcher := { s.dispatcher with behind := 0, held := none }
    resetting := if discardsRestart s then
        { s.resetting with awaited := some (s.resetting.awaited.getD .restart) }
      else s.resetting }

/-- A link reset is no restart at once: it discards no reply to a Restart, or an ABORT is to be sent first (R168). -/
abbrev NoRestartAtOnce (s : State) : Prop :=
  discardsRestart s = false ∨ inTransmission s = true ∨ aborting s = true

/-! ## The opening of a record (R16, R29, R32 to R37) -/

/-- The streams that an opening for a profile includes: those of its mask that are not collecting, ascending (R29). -/
def openingStreams (profile : Profile) (s : State) : List (Fin 16) :=
  (List.finRange 16).filter fun k => profile.mask.getLsbD k.val && (capturing k s).isNone

/-- The available pre count of a stream at an opening (R16). -/
def preCountOf (profile : Profile) (k : Fin 16) (s : State) : Nat :=
  min profile.preCount (ringSamples s.streams[k].format s.rings[k])

/-- How many of its newest pages the ring of a stream hands over at an opening (R16). -/
def handedPages (profile : Profile) (k : Fin 16) (s : State) : Nat :=
  pagesTaken s.streams[k].format (preCountOf profile k s) s.rings[k].run.fill

/-- The part that a stream starts with: the pages handed over, newest last, with the ring's fill and pending block, and the
settings that the stream and its slot have (R16, R17, R37). -/
def openedPart (profile : Profile) (k : Fin 16) (s : State) : StreamPart :=
  { stream := k
    format := s.streams[k].format
    input := (slotOf k s).input
    polarity := (slotOf k s).polarity
    gain := (slotOf k s).gain
    decimation := s.streams[k].decimation
    starved := s.rings[k].starved
    leadTotal := leadingSkip s.streams[k].format (preCountOf profile k s) s.rings[k].run.fill
    preCount := preCountOf profile k s
    postCount := 0
    firstIndex := s.filters[k].index - BitVec.ofNat 32 (preCountOf profile k s)
    run := if handedPages profile k s = 0 then { pages := [], fill := 0, pendingBlock := [] }
      else { pages := s.rings[k].run.pages.drop (s.rings[k].run.pages.length - handedPages profile k s)
             fill := s.rings[k].run.fill
             pendingBlock := s.rings[k].run.pendingBlock }
    collecting := true
    remaining := profile.postCount }

/-- The pages that an opening returns to the free list: the older ones of each included stream's ring, in ascending stream
number and head first (R16). -/
def openingReturns (profile : Profile) (s : State) : List Page :=
  (openingStreams profile s).flatMap fun k =>
    (s.rings[k].run.pages.take (s.rings[k].run.pages.length - handedPages profile k s)).map blankPage

/-- The part after the opening of a record for a trigger (R16, R29, R32 to R37): the record at the end of the table, the
included streams collecting for it from empty rings, and TRIG_OUT high for 10 us. Everything else is unchanged. -/
def afterOpening (t : Trigger) (s : State) : State :=
  { s with
    free := s.free ++ openingReturns s.profiles[t.profile] s
    rings := Vector.ofFn fun k =>
      if k ∈ openingStreams s.profiles[t.profile] s then
        { run := { pages := [], fill := 0, pendingBlock := [] }, starved := false } else s.rings[k]
    sinks := Vector.ofFn fun k =>
      if k ∈ openingStreams s.profiles[t.profile] s then .capture (freshNumber s) else s.sinks[k]
    records := s.records ++ [{
      number := freshNumber s, profile := t.profile, state := .opened
      flags := { noFlags with
        preShort := (openingStreams s.profiles[t.profile] s).any fun k =>
          decide (preCountOf s.profiles[t.profile] k s < s.profiles[t.profile].preCount)
        isPartial := (List.finRange 16).any fun k =>
          s.profiles[t.profile].mask.getLsbD k.val && (capturing k s).isSome }
      source := t.source, time := t.time, sample := t.sample, closeTime := none
      requestedPre := s.profiles[t.profile].preCount, requestedPost := s.profiles[t.profile].postCount
      parts := (openingStreams s.profiles[t.profile] s).map fun k => openedPart s.profiles[t.profile] k s
      retriggers := [] }]
    nextRecord := if freshNumber s < 65535 then freshNumber s + 1 else 1
    openRecord := put s.openRecord t.profile (some (freshNumber s))
    pins := { s.pins with trigOut := some (microseconds 10) } }

/-! ## What a Start and an edit check (R23, R82, R123, R124) -/

/-- A profile is usable: its mask is not empty and holds only enabled streams (R23). -/
abbrev ProfileUsable (p : Fin 4) (s : State) : Prop :=
  s.profiles[p].mask ≠ 0 ∧ ∀ k : Fin 16, s.profiles[p].mask.getLsbD k.val = true → s.streams[k].enabled = true

/-- Step 1: a slot and an enabled stream (R123). -/
abbrev StreamsChosen (s : State) : Prop := s.scan ≠ [] ∧ ∃ k : Fin 16, s.streams[k].enabled = true

/-- Step 2, of one stream: when enabled it has a slot (R123). -/
abbrev StreamSlotted (k : Fin 16) (s : State) : Prop := s.streams[k].enabled = true → k.val < s.scan.length

/-- Step 3, of one stream: when enabled it names BYPASS or a loaded set (R123). -/
abbrev StreamLoaded (k : Fin 16) (s : State) : Prop :=
  s.streams[k].enabled = true →
    ∀ set : Fin 4, s.streams[k].filter = .coefficients set → s.coefficients[set].coefficients ≠ []

/-- Step 4, of one watch definition: when enabled, its stream is enabled and its profile NONE or usable (R82, R124). -/
abbrev WatchSound (d : WatchDefinition) (s : State) : Prop :=
  d.enabled = true → s.streams[d.stream].enabled = true ∧ ∀ p, d.profile = some p → ProfileUsable p s

/-- Step 4, of the external trigger (R88, R124). -/
abbrev ExternalSound (d : ExternalDefinition) (s : State) : Prop :=
  d.enabled = true → ∀ p, d.profile = some p → ProfileUsable p s

/-- The sum of H over the enabled streams (R123). -/
def enabledHistory (s : State) : Nat :=
  ((List.finRange 16).map fun k => if s.streams[k].enabled then s.streams[k].history else 0).sum

/-- Steps 2 to 4 of every stream, every watch and the external trigger (R123, R124). -/
abbrev SourcesSound (s : State) : Prop :=
  (∀ k : Fin 16, StreamSlotted k s ∧ StreamLoaded k s) ∧ (∀ w : Fin 8, WatchSound s.watches[w].definition s)
    ∧ ExternalSound s.external.definition s

/-- Step 6: under PACED the period is at least the round time and 2 us more (R123). -/
abbrev PaceSound (s : State) : Prop := s.settings.source = .paced → roundMicroseconds s + 2 ≤ s.settings.period

end Sys2Proof.Machine
end

