-- ==== Sys2Proof/Certificates/Slice0/Obligations.lean ====
section
/-! DEFINITION. The statements about the GW416. In them `s` is the state an event meets and `u` what the event finds there:
the same, but for the steps a delivery had left due, which are taken first (`Finds`, log 1). `conclude` is what follows at
the end of every event (logs 11 to 13); OnlyTheLinkMovesAroundAnEvent says all that it can do. -/

open Sys2Proof Sys2Proof.Machine

/-! ## The machine -/

/-- One step takes the command at the front of the queue, with the queue's rest. -/
def Obligations.StepTakesTheFrontCommand : Prop :=
  ∀ (c : Instr) (rest : List Instr) (s : State), step { s with pending := c :: rest } = exec c { s with pending := rest }

/-- The model's choice (log 2): on an empty queue one microsecond passes. The Timebase rises by 1 (R103), and every running
timer is a microsecond nearer to its end, but not below 0 where its own command awaits it (log 3); nothing else changes. -/
def Obligations.EmptyQueueLetsAMicrosecondPass : Prop :=
  ∀ s u t : State, Finds s u → s.pending = [] → s.clock.phase < unitsPerMicrosecond → t = elapse (microseconds 1) u →
    step s = .next (conclude t)
    ∧ t = { u with
            clock := { timebase := s.clock.timebase + 1, phase := s.clock.phase }
            round := t.round, pacer := t.pacer, pins := t.pins, external := t.external, alarms := t.alarms,
            receiver := t.receiver, transmit := t.transmit }
    ∧ (∀ start k left, u.round = .inRound start k left → t.round = .inRound start k (left - 288))
    ∧ (u.round = .noRound → t.round = .noRound)
    ∧ (∀ period left, u.pacer = .running period left → t.pacer = .running period (left - 288))
    ∧ (u.pacer = .stopped → t.pacer = .stopped)
    ∧ t.pins = { u.pins with trigOut := u.pins.trigOut.map fun left => left - 288 }
    ∧ t.external.definition = u.external.definition
    ∧ (∀ left, u.external.state = .holdoff left → t.external.state = .holdoff (left - 288))
    ∧ ((∀ left, u.external.state ≠ .holdoff left) → t.external.state = u.external.state)
    ∧ t.alarms = u.alarms.map (fun e => match e.state with
        | .waiting left => { e with state := .waiting (left - 288) }
        | .pending => e
        | .queued => e)
    ∧ t.receiver = { u.receiver with timer := u.receiver.timer.map fun left => left - 288 }
    ∧ t.transmit = { u.transmit with lineTime := u.transmit.lineTime - 288 }

/-- Every command of the part is answered with a next state; while the blocks are held in reset none but the end of the
reset changes anything (R221). -/
def Obligations.CommandsAnswerAndAHeldPartTakesNone : Prop :=
  (∀ (c : Instr) (s : State), ∃ t : State, exec c s = .next t)
  ∧ ∀ (c : Instr) (s : State), s.resetting.held = true → (∀ pins, c ≠ .powerOnReset pins) → (∀ pins, c ≠ .pinResetEnd pins) →
    exec c s = .next s ∧ step { s with pending := [] } = .next { s with pending := [] }

/-- What follows at the end of an event, in the order that is the model's reading (logs 11 to 13): PENDING alarm entries move
into the URGENT queue (R137), the unit chooses on an idle line when no reset is awaited (R173, R181), they move again, and the
Dispatcher takes a request (R183). A move is that of the oldest PENDING entry into a free place: its report is built with the
drop count, which becomes 0, and the entry is QUEUED (R136, R137). The take leaves behind the number of requests that are left
(R165; log 25). Nothing else changes, and it leaves no PENDING alarm beside a free URGENT place, nothing to start on an idle
line, and no request for a FREE Dispatcher that has a NORMAL place. Before an event the post counts that a delivery left due
are taken, each an event of its own with what follows it, so that an idle line has begun its CAPTURE_DONE (R39, R173; logs 1,
12); when no step is due nothing happens. -/
def Obligations.OnlyTheLinkMovesAroundAnEvent : Prop :=
  (∀ s : State, conclude s = takeRequest (moveOldestPending^[4] (decideIdle (moveOldestPending^[4] s))))
  ∧ (∀ s : State,
    (s.transmit.line = none → s.resetting.awaited = none → decideIdle s = chooseFrame s)
    ∧ (s.transmit.line ≠ none ∨ s.resetting.awaited ≠ none → decideIdle s = s))
  ∧ (∀ (s : State) (before after : List AlarmEntry) (e : AlarmEntry), s.alarms = before ++ e :: after →
    e.state = .pending → (∀ x ∈ before, x.state ≠ .pending) → s.transmit.urgent.length < 4 →
    moveOldestPending s =
      { s with
        alarms := before ++ { e with state := .queued } :: after
        dropCount := 0
        transmit := { s.transmit with urgent := s.transmit.urgent ++ [alarmReportFrame e s.dropCount] } })
  ∧ (∀ s : State, 4 ≤ s.transmit.urgent.length ∨ (∀ e ∈ s.alarms, e.state ≠ .pending) → moveOldestPending s = s)
  ∧ (∀ s : State,
    (∀ (r : Request) (rest : List Request), s.dispatcher.state = .free → s.inbound = r :: rest →
      s.transmit.normal.length < 8 → takeRequest s =
        { s with
          inbound := rest
          dispatcher := { s.dispatcher with state := .executing r, behind := rest.length } })
    ∧ (s.dispatcher.state ≠ .free ∨ s.inbound = [] ∨ 8 ≤ s.transmit.normal.length → takeRequest s = s))
  ∧ (∀ s : State, ∃ (alarms : List AlarmEntry) (drops : Nat) (tr : TransmitUnit) (ro : Readout) (inb : List Request)
      (d : DispatcherState) (b : Nat),
    conclude s =
        { s with alarms := alarms, dropCount := drops, transmit := tr, readout := ro, inbound := inb,
                 dispatcher := { s.dispatcher with state := d, behind := b } }
      ∧ (alarms.map fun e => { e with state := .pending }) = (s.alarms.map fun e => { e with state := .pending })
      ∧ tr.rate = s.transmit.rate ∧ tr.tail = s.transmit.tail
      ∧ (tr.urgent.length < 4 → ∀ e ∈ alarms, e.state ≠ .pending)
      ∧ (tr.line = none → s.resetting.awaited = none → tr.urgent = [] ∧ tr.normal = [] ∧ tr.suspended = [])
      ∧ ((d = s.dispatcher.state ∧ inb = s.inbound ∧ b = s.dispatcher.behind)
        ∨ ∃ r, s.dispatcher.state = .free ∧ s.inbound = r :: inb ∧ d = .executing r ∧ b = inb.length)
      ∧ (d = .free → inb = [] ∨ 8 ≤ tr.normal.length))
  ∧ (∀ s : State, settle s = settleWatches ((List.finRange 16).foldl
    (fun v k => if (postCountDue k v).isSome then conclude (reachPostCount k v) else v) s))
  ∧ ∀ s : State, NothingDue s → settle s = s

/-! ## Resets -/

/-- POWER_ON_RESET from any state: every block at its reset value, the straps sampled, and RESTARTED (POWER) the first
frame on TXD (R146, R153, R221). The reset values: the 192 pages free in ascending order, the rings empty, the sinks
NONE (R21); the profiles (R22), no OPEN record, an empty table, next record number 1 and the readout IDLE (R33, R50, R61); the
watches and the external trigger at their definitions, DISARMED (R70, R85); Timebase 0 (R103), no slot, round or pacer (R90,
R94); the streams, the coefficient sets and the filters (R106, R108, R111); IDLE and its settings (R120, R121, R132); no alarm,
id 0, drop count 0 (R144); the counters 0 and CLEAR (R152); the receiver in HUNT, the queues, the stack and the buffer empty,
the Dispatcher FREE (R158, R165, R182, R183). The model's choice: the triggers and alarm requests on their way are dropped
(log 27); the readout's fields, the phase of the microsecond, `behind`, and in State.reset the rate and the accepted pin
levels, which a reset samples, are as spelled (log 9). -/
def Obligations.PowerOnResetStartsThePartAfresh : Prop :=
  (∀ (pins : PinLevels) (s : State), exec (.powerOnReset pins) s = .next (afterReset .power pins s))
  ∧ State.reset =
    { clock := { timebase := 0, phase := 0 }
      resetting := { pinLow := false, held := false, awaited := none }
      pins := { convIn := .low, trigIn := .low, trigOut := none }
      scan := [], round := .noRound, pacer := .stopped
      streams := Vector.replicate 16
        { enabled := false, filter := .bypass, decimation := 1, history := 0, format := .full }
      coefficients := Vector.replicate 4 { shift := 0, coefficients := [] }
      filters := Vector.replicate 16 { delayLine := [], count := 0, index := 0, due := none }
      free := (List.range 192).map fun n => { number := n, content := [] }
      rings := Vector.replicate 16 { run := { pages := [], fill := 0, pendingBlock := [] }, starved := false }
      sinks := Vector.replicate 16 .none
      profiles := Vector.replicate 4 { mask := 0, preCount := 0, postCount := 1, extend := false }
      openRecord := Vector.replicate 4 none, records := [], nextRecord := 1
      readout := { state := .idle, record := 0, tag := 0, length := 0, offset := 0 }
      watches := Vector.replicate 8
        { definition := { enabled := false, stream := 0, kind := .above, low := BitVec.ofInt 16 (-32768),
                          high := BitVec.ofInt 16 32767, hysteresis := 0, qualify := 1, holdoff := 0, profile := none,
                          alarm := false, oneShot := false }
          state := .disarmed, qualifyCount := 0, holdoffCount := 0, previous := none, firing := none }
      external := { definition := { enabled := false, edge := .rising, profile := none, alarm := false, holdoff := 0 }
                    state := .disarmed }
      triggers := [], acquisition := .idle
      settings := { source := .paced, period := 1000, policy := .refuseNew }
      alarms := [], nextAlarm := 0, dropCount := 0, alarmRequests := []
      counters := Vector.replicate 16 { value := 0, mark := .clear }
      receiver := { state := .hunt, content := [], expected := none, timer := none, breakMark := false }
      inbound := []
      transmit := { rate := 0, urgent := [], normal := [], bulk := none, sending := none, suspended := [], line := none,
                    lineTime := 0, tail := [] }
      dispatcher := { state := .free, behind := 0, held := none }
      draws := 0, pending := [] }

/-- PIN_RESET and PIN_RESET_END (R181, R221): with no frame in transmission the blocks are held in reset at once;
otherwise ABORT follows the character on the line (and an escape's follower) and the reset waits for it; with an ABORT
already under way the reset waits for that one (log 19, the model's reading). A held reset ends with RESTARTED (PIN) when
RESET rises; a rise before the ABORT has been sent does not end it. That a reset drops the triggers and alarm requests on
their way is the model's choice (log 27), and so are the values that log 9 names. -/
def Obligations.PinResetHoldsThePartUntilResetRises : Prop :=
  (∀ s u : State, Finds s u →
    (inTransmission u = false → exec .pinReset s = .next (heldInReset u))
    ∧ (inTransmission u = true → aborting u = false →
        exec .pinReset s = .next (conclude
          { u with
            transmit := { u.transmit with
              tail := (if u.transmit.line = some 0xE4 then ((u.transmit.sending.map fun t => t.unsent.take 1).getD [])
                else []) ++ [0xE5] }
            resetting := { pinLow := true, held := false, awaited := some .pin } }))
    ∧ (inTransmission u = true → aborting u = true →
        exec .pinReset s = .next (conclude
          { u with resetting := { pinLow := true, held := false, awaited := some .pin } })))
  ∧ (∀ (pins : PinLevels) (s : State), s.resetting.held = true →
      exec (.pinResetEnd pins) s = .next (afterReset .pin pins s))
  ∧ ∀ (pins : PinLevels) (s u : State), Finds s u →
      exec (.pinResetEnd pins) s = .next (conclude { u with resetting := { u.resetting with pinLow := false } })

/-- A reset that waited for its ABORT takes effect when the ABORT's stop bit ends (R181, R221); a BREAK that discards the
reply to a Restart, with no ABORT to be sent, is the restart at once (R168). That a reset drops the triggers and alarm
requests on their way is the model's choice (log 27), and so are the values that log 9 names. -/
def Obligations.AwaitedResetsFollowTheirAbort : Prop :=
  (∀ (pins : PinLevels) (s u : State), Finds s u → u.transmit.line = some 0xE5 → u.transmit.tail = [] →
    (u.resetting.awaited = some .restart → exec (.txCharacterBoundary pins) s = .next (afterReset .request pins u))
    ∧ (u.resetting.awaited = some .pin → u.resetting.pinLow = true →
        exec (.txCharacterBoundary pins) s = .next (heldInReset u))
    ∧ (u.resetting.awaited = some .pin → u.resetting.pinLow = false →
        exec (.txCharacterBoundary pins) s = .next (afterReset .pin pins u)))
  ∧ ∀ (pins : PinLevels) (s u v : State), Finds s u → u.receiver.breakMark = false → v = brokenInto u →
      discardsRestart v = true → inTransmission v = false → aborting v = false →
      exec (.lineBreak { pins := pins, moment := .alone }) s = .next (afterReset .request pins v)

/-- BREAK with the break mark clear (R143, R166, R167, R168, R180): a frame that was being received ends with a framing
error, and then the link reset is taken, step by step (`afterLinkReset`); a Restart whose reply it discards while an ABORT
is to be sent is awaited. Taken right after the reply of the request in execution (R188; log 26, the model's reading), it
takes the notices that the request holds with it, the reserve untested and a FAULT notice's mark REPORTED: so of Cancel
Readout and of the first LOST (OVERLAP) of a Force Capture; a reply that an idle line had begun is aborted (R173). With no
request in execution there is no such moment, and it is the link reset alone (the model's choice, log 26). -/
def Obligations.BreakResetsTheLink : Prop :=
  (∀ (pins : PinLevels) (s u v : State), Finds s u → u.receiver.breakMark = false → v = brokenInto u → NoRestartAtOnce v →
    exec (.lineBreak { pins := pins, moment := .alone }) s = .next (conclude (afterLinkReset v))
    ∧ ((∀ r, v.dispatcher.state ≠ .executing r) →
      exec (.lineBreak { pins := pins, moment := .afterReply }) s = .next (conclude (afterLinkReset v))))
  ∧ (∀ (pins : PinLevels) (r : Request) (s u v : State), Finds s u → u.receiver.breakMark = false → v = brokenInto u →
    NoRestartAtOnce v → v.dispatcher.state = .executing r → r.type = 0x32 → r.payload = [] → v.readout.state ≠ .idle →
    exec (.lineBreak { pins := pins, moment := .afterReply }) s = .next (conclude
      { afterLinkReset (withReply (replyFrame r .ok []) v.dispatcher
          { v with
            records := changeFirst (fun x => x.number == v.readout.record) (fun x => { x with state := .closed })
              v.records
            readout := resetReadout }) with
        dispatcher := { state := .free, behind := 0, held := none } }))
  ∧ ∀ (pins : PinLevels) (r : Request) (p : Fin 4) (s u v : State), Finds s u → u.receiver.breakMark = false →
    v = brokenInto u → NoRestartAtOnce v → v.dispatcher.state = .executing r → r.type = 0x23 →
    r.payload = [byteOf p.val] → v.acquisition = .running → ProfileUsable p v → v.openRecord[p] = none →
    openingStreams v.profiles[p] v = [] → v.counters[4].value = 0 →
    exec (.lineBreak { pins := pins, moment := .afterReply }) s = .next (conclude
      { afterLinkReset (withReply (replyFrame r .ok [0x02, 0, 0, 0x01]) v.dispatcher
          { v with counters := put v.counters 4 { value := 1, mark := .reported } }) with
        dispatcher := { state := .free, behind := 0, held := none } })

/-- While the break mark is set no character is taken and the low causes no second break; BREAK_END clears the mark
(R166, R169). A character whose start bit fell while RESET was low is never taken (R153). -/
def Obligations.BreakMarkSilencesTheReceiver : Prop :=
  ∀ s u : State, Finds s u →
    (u.receiver.breakMark = true → (∀ taken, exec (.lineBreak taken) s = .next (conclude u))
      ∧ ∀ c, exec (.rxCharacter c) s = .next (conclude u))
    ∧ exec .lineBreakEnd s = .next (conclude { u with receiver := { u.receiver with breakMark := false } })
    ∧ exec (.rxCharacter .startedInReset) s = .next (conclude u)

/-! ## Reception -/

/-- R160: in HUNT an OPEN begins a frame and starts the 20 ms timer; every other character, good or not, is ignored. -/
def Obligations.HuntWaitsForAnOpen : Prop :=
  ∀ s u : State, Finds s u → u.receiver.breakMark = false → u.receiver.state = .hunt →
    exec (.rxCharacter (.good 0xE1)) s = .next (conclude
      { u with receiver := { state := .inFrame, content := [], expected := none, timer := some (milliseconds 20),
                             breakMark := false } })
    ∧ (∀ b : Byte, b ≠ 0xE1 → exec (.rxCharacter (.good b)) s = .next (conclude u))
    ∧ exec (.rxCharacter .error) s = .next (conclude u)

/-- R159, R161: inside a frame an OPEN is a framing error that begins a new frame; SUSPEND, RESUME, ABORT and a character
error end the frame in HUNT; an ESCAPE waits for its follower; any other value is collected, and the third of the content
sets the expected count. The one that reaches the expected count completes the frame: it is checked and the receiver is in
HUNT (R162, R164). -/
def Obligations.FrameCollectsItsCharacters : Prop :=
  ∀ s u : State, Finds s u → u.receiver.breakMark = false → u.receiver.state = .inFrame →
    exec (.rxCharacter (.good 0xE1)) s = .next (conclude (countUp .rxFraming
      { u with receiver := { state := .inFrame, content := [], expected := none, timer := some (milliseconds 20),
                             breakMark := false } }))
    ∧ (∀ c : RxCharacter, c = .error ∨ c = .good 0xE2 ∨ c = .good 0xE3 ∨ c = .good 0xE5 →
        exec (.rxCharacter c) s = .next (conclude (countUp .rxFraming
          { u with receiver := { state := .hunt, content := [], expected := none, timer := none, breakMark := false } })))
    ∧ exec (.rxCharacter (.good 0xE4)) s = .next (conclude
        { u with receiver := { u.receiver with state := .escapePending, timer := some (milliseconds 20) } })
    ∧ (∀ (b : Byte) (expected : Option Nat), isReserved b = false →
        expected = (if u.receiver.content.length = 2 then some (b.toNat + 5) else u.receiver.expected) →
        expected ≠ some (u.receiver.content.length + 1) →
        exec (.rxCharacter (.good b)) s = .next (conclude
          { u with receiver := { state := .inFrame, content := u.receiver.content ++ [b], expected := expected,
                                 timer := some (milliseconds 20), breakMark := false } }))
    ∧ (∀ b : Byte, isReserved b = false →
        (if u.receiver.content.length = 2 then some (b.toNat + 5) else u.receiver.expected)
          = some (u.receiver.content.length + 1) →
        exec (.rxCharacter (.good b)) s = .next (conclude (checkFrame (u.receiver.content ++ [b])
          { u with receiver := { state := .hunt, content := [], expected := none, timer := none, breakMark := false } })))

/-- R159, R162: after an ESCAPE, C1h to C5h stand for E1h to E5h, and the byte that reaches the expected count completes the
frame (R164); an OPEN begins a new frame after one framing error; any other character is a framing error. -/
def Obligations.EscapeTakesItsFollower : Prop :=
  ∀ s u : State, Finds s u → u.receiver.breakMark = false → u.receiver.state = .escapePending →
    exec (.rxCharacter (.good 0xE1)) s = .next (conclude (countUp .rxFraming
      { u with receiver := { state := .inFrame, content := [], expected := none, timer := some (milliseconds 20),
                             breakMark := false } }))
    ∧ (∀ c : RxCharacter, c = .error ∨ (∃ b : Byte, c = .good b ∧ b ≠ 0xE1 ∧ ¬ (0xC1 ≤ b.toNat ∧ b.toNat ≤ 0xC5)) →
        exec (.rxCharacter c) s = .next (conclude (countUp .rxFraming
          { u with receiver := { state := .hunt, content := [], expected := none, timer := none, breakMark := false } })))
    ∧ (∀ (b : Byte) (expected : Option Nat), 0xC1 ≤ b.toNat → b.toNat ≤ 0xC5 →
        expected = (if u.receiver.content.length = 2 then some (b.toNat + 32 + 5) else u.receiver.expected) →
        expected ≠ some (u.receiver.content.length + 1) →
        exec (.rxCharacter (.good b)) s = .next (conclude
          { u with receiver := { state := .inFrame, content := u.receiver.content ++ [b + 32], expected := expected,
                                 timer := some (milliseconds 20), breakMark := false } }))
    ∧ (∀ b : Byte, 0xC1 ≤ b.toNat → b.toNat ≤ 0xC5 →
        (if u.receiver.content.length = 2 then some (b.toNat + 32 + 5) else u.receiver.expected)
          = some (u.receiver.content.length + 1) →
        exec (.rxCharacter (.good b)) s = .next (conclude (checkFrame (u.receiver.content ++ [b + 32])
          { u with receiver := { state := .hunt, content := [], expected := none, timer := none, breakMark := false } })))

/-- The characters of a request's frame, taken one after another in HUNT, put exactly that request in the inbound queue
(R155 to R157, R160 to R165). -/
def Obligations.RequestFramesSurviveTheLine : Prop :=
  ∀ (r : Request) (s : State), r.payload.length ≤ 255 → s.receiver.breakMark = false → s.receiver.state = .hunt →
    s.inbound.length < 4 →
    (lineCharacters r.type r.tag r.payload).foldl (fun t b => receiveCharacter (.good b) t) s
      = { s with
          receiver := { state := .hunt, content := [], expected := none, timer := none, breakMark := false }
          inbound := s.inbound ++ [r] }

/-- INTER_CHARACTER_TIMEOUT inside a frame: the frame is discarded, RX_TIMEOUT rises and the receiver is in HUNT (R163).
That the time left of the timer passes first is log 3, and that nothing happens with the timer stopped is log 4: both are
the model's choice. A completed frame whose CRC differs raises RX_CRC, and one offered to a full inbound queue
REQUEST_DISCARDED; neither is queued; any other joins the inbound queue with its type, tag and payload (R164, R165). -/
def Obligations.DiscardedFramesAreCounted : Prop :=
  (∀ (type tag length : Byte) (payload crc : List Byte) (s : State), crc.length = 2 → s.inbound.length < 4 →
    (crcOf (type :: tag :: length :: payload)).toNat = valueOf crc →
    checkFrame (type :: tag :: length :: (payload ++ crc)) s
      = { s with inbound := s.inbound ++ [{ type := type, tag := tag, payload := payload }] })
  ∧ (∀ (content : List Byte) (s : State), 5 ≤ content.length →
    ((crcOf (content.take (content.length - 2))).toNat ≠ valueOf (content.drop (content.length - 2)) →
      checkFrame content s = countUp .rxCrc s)
    ∧ ((crcOf (content.take (content.length - 2))).toNat = valueOf (content.drop (content.length - 2)) →
        4 ≤ s.inbound.length → checkFrame content s = countUp .requestDiscarded s))
  ∧ ∀ s u : State, Finds s u →
    (∀ left : Nat, u.receiver.timer = some left →
      exec .interCharacterTimeout s = .next (conclude (countUp .rxTimeout
        { elapse left u with
          receiver := { state := .hunt, content := [], expected := none, timer := none,
                        breakMark := u.receiver.breakMark } })))
    ∧ (u.receiver.timer = none → exec .interCharacterTimeout s = .next (conclude u))

/-! ## Frames and layouts -/

/-- R155: a content byte in E1h to E5h goes out as ESCAPE and the byte XOR 20h, which lies in C1h to C5h and gives the
byte back; every other byte goes out as itself, the OPEN is not escaped, and a content of n bytes with e of them in E1h to
E5h takes 1 + n + e characters. R153: a character is a low start bit, eight data bits least significant first and a high
stop bit, a tenth of the character time each; TXD is high on an idle line (R223). The straps select the rates 115200, 460800,
921600 and 2,000,000 bit/s, and a character takes ten bit times (in units of which a second has 288,000,000, log 5). R157:
the CRC starts at FFFFh, takes each byte most significant bit first into its upper eight bits, and XORs 1021h for each 1 that
is shifted out; its check value is 29B1h. -/
def Obligations.ReservedBytesAreEscaped : Prop :=
  (∀ b : Byte, 0xE1 ≤ b.toNat ∧ b.toNat ≤ 0xE5 →
      escapeByte b = [0xE4, b ^^^ 0x20] ∧ isFollower (b ^^^ 0x20) = true ∧ (b ^^^ 0x20) ^^^ 0x20 = b)
  ∧ (∀ b : Byte, ¬ (0xE1 ≤ b.toNat ∧ b.toNat ≤ 0xE5) → escapeByte b = [b])
  ∧ (∀ (type tag : Byte) (payload : List Byte),
      (∃ content, lineCharacters type tag payload = 0xE1 :: content
        ∧ content = (contentBytes type tag payload).flatMap escapeByte)
      ∧ (lineCharacters type tag payload).length
          = 1 + (payload.length + 5) + ((contentBytes type tag payload).filter isReserved).length)
  ∧ (∀ (s : State) (T left : Nat), T = characterTime s.transmit.rate → left = s.transmit.lineTime →
      (s.transmit.line = none → txdLevel s = .high)
      ∧ ∀ (c : Byte) (sent : Nat), s.transmit.line = some c → 0 < left → left ≤ T → sent = 10 * (T - left) →
        (sent < T → txdLevel s = .low)
        ∧ (∀ i < 8, (i + 1) * T ≤ sent → sent < (i + 2) * T →
          txdLevel s = if c.getLsbD i = true then .high else .low)
        ∧ (9 * T ≤ sent → txdLevel s = .high))
  ∧ ((∀ pins : PinLevels, (strappedRate pins).val
        = 2 * (if pins.rate1 = .high then 1 else 0) + (if pins.rate0 = .high then 1 else 0))
    ∧ ([115200, 460800, 921600, 2000000] : List Nat).zipWith (fun bits (rate : Fin 4) => bits * characterTime rate)
        (List.finRange 4) = List.replicate 4 (10 * 288000000))
  ∧ crcOf [] = 0xFFFF
  ∧ (∀ (bytes : List Byte) (b : Byte), crcOf (bytes ++ [b])
      = (fun v : BitVec 16 => if v.getLsbD 15 then (v <<< 1) ^^^ 0x1021 else v <<< 1)^[8]
          (crcOf bytes ^^^ (b.setWidth 16 <<< 8)))
  ∧ crcOf [0x31, 0x32, 0x33, 0x34, 0x35, 0x36, 0x37, 0x38, 0x39] = 0x29B1

/-- R214: the type, tag and payload of each notice, byte by byte. R215: the type 50h, the tag 0 and the 15 payload bytes of
an alarm report; the presence byte says which of value and record number the entry has. R187: a reply has the request's type
plus 80h, or FFh for a type of 80h or above, and its tag, and its payload begins with the status byte, whose 16 values are
those of R185. R212: the codes of the causes, the reasons, the sources, the record states, the formats and the flags.
R148: the ids of the sixteen counters, which FAULT and Read Counters carry. -/
def Obligations.NoticesAndReportsHaveTheirLayouts : Prop :=
  ((∀ c : RestartCause, noticeFrame (.restarted c) = { kind := .notice, type := 0x40, tag := 0, payload := [causeByte c] })
  ∧ (∀ (n l : Nat) (f : RecordFlags), noticeFrame (.captureDone n f l) =
      { kind := .notice, type := 0x41, tag := 0,
        payload := [byteOf n, byteOf (n / 256), flagsByte f, byteOf l, byteOf (l / 256)] })
  ∧ (∀ (c : CounterId) (t : Time), noticeFrame (.fault c t) =
      { kind := .notice, type := 0x42, tag := 0, payload := byteOf (counterIndex c).val :: timeBytes t })
  ∧ (∀ (r : IdleReason) (t : Time) (n : Nat), noticeFrame (.acquisitionIdle r t n) =
      { kind := .notice, type := 0x43, tag := 0, payload := idleReasonByte r :: (timeBytes t ++ [byteOf n]) })
  ∧ (∀ (n o : Nat) (r : ReadoutEnd), noticeFrame (.readoutEnded n r o) =
      { kind := .notice, type := 0x44, tag := 0,
        payload := [byteOf n, byteOf (n / 256), readoutEndByte r, byteOf o, byteOf (o / 256)] })
  ∧ (∀ (i : Byte) (src : TriggerSource) (t : Time) (n : Option Nat), noticeFrame (.alarmLost i src t n) =
      { kind := .notice, type := 0x45, tag := 0,
        payload := i :: sourceByte src :: (timeBytes t ++ [byteOf (n.getD 0), byteOf (n.getD 0 / 256)]) })
  ∧ (∀ n : Nat, noticeFrame (.recordDiscarded n) =
      { kind := .notice, type := 0x46, tag := 0, payload := [byteOf n, byteOf (n / 256)] })
  ∧ ∀ t : Time, timeBytes t = [byteOf t.toNat, byteOf (t.toNat / 256), byteOf (t.toNat / 256 ^ 2),
      byteOf (t.toNat / 256 ^ 3), byteOf (t.toNat / 256 ^ 4), byteOf (t.toNat / 256 ^ 5)])
  ∧ (∀ (e : AlarmEntry) (drop : Nat), ∃ presence : Byte,
    (alarmReportFrame e drop).type = 0x50 ∧ (alarmReportFrame e drop).tag = 0
    ∧ (alarmReportFrame e drop).payload =
        [e.id, byteOf (e.sendCount + 1), sourceByte e.source, presence] ++ timeBytes e.time
          ++ [byteOf (e.value.getD 0).toNat, byteOf ((e.value.getD 0).toNat / 256)]
          ++ [byteOf (e.record.getD 0), byteOf (e.record.getD 0 / 256)] ++ [byteOf drop]
    ∧ (alarmReportFrame e drop).payload.length = 15
    ∧ presence.getLsbD 0 = e.value.isSome ∧ presence.getLsbD 1 = e.record.isSome
    ∧ ∀ i, 2 ≤ i → presence.getLsbD i = false)
  ∧ (∀ (r : Request) (status : Status) (data : List Byte), replyFrame r status data =
      { kind := .reply, type := if 0x80 ≤ r.type.toNat then 0xFF else r.type + 0x80, tag := r.tag,
        payload := statusByte status :: data })
  ∧ [Status.ok, .badType, .badLength, .badParam, .wrongState, .setInUse, .notConfigured, .poolOvercommit, .paceTooFast,
      .noRecord, .notSealed, .readoutBusy, .badOffset, .noAlarm, .roundBusy, .noReadout].map statusByte
      = (List.range 16).map (BitVec.ofNat 8)
  ∧ ([RestartCause.power, .pin, .request, .link].map causeByte = [0x00, 0x01, 0x02, 0x03]
    ∧ [IdleReason.drained, .stopped].map idleReasonByte = [0x00, 0x01]
    ∧ [ReadoutEnd.cancelled, .released, .linkReset].map readoutEndByte = [0x00, 0x01, 0x02]
    ∧ [RecordState.opened, .closed, .reading].map recordStateByte = [0x00, 0x01, 0x02]
    ∧ [Format.full, .packed].map formatByte = [0x00, 0x01]
    ∧ ([CounterId.roundOverrun, .filterSaturation, .historyLost, .captureLostFull, .captureLostOverlap, .streamTruncated,
        .rxCrc, .rxFraming, .rxTimeout, .requestDiscarded, .noticeDropped, .alarmDropped, .alarmUndelivered,
        .recordDiscarded, .linkResets, .replyDiscarded].map fun id => (counterIndex id).val) = List.range 16
    ∧ (∀ w : Fin 8, (sourceByte (.watch w)).toNat = w.val) ∧ sourceByte .external = 0x08 ∧ sourceByte .force = 0x09
    ∧ ∀ (f : RecordFlags) (i : Nat), (flagsByte f).getLsbD i
        = ([f.preShort, f.isPartial, f.extended, f.retrigOverflow, f.truncated, f.stopped, f.read].getD i false))

/-- The image length, which the header, CAPTURE_DONE, List Records and Read Record give, is that of R60, and so is the length
of the image of a record whose parts hold their data: 32 bytes of header, 16 and its data for each
part, 8 for each retrigger entry; the data of a FULL part is 2 bytes a sample, of a PACKED part 17 bytes a block of R58.
The image is the header, the section and the data of each part, and the retrigger entries (R53); the bytes of the header
(R54, R55, R218: the flags are those at the closing, READ is 0), of a section (R56, R219) and of an entry (R59, R220) are
as listed, every field least significant byte first and an absent one 0 (R212). A part's data are its stored bytes from the
first window sample of a FULL part, or the block that holds it of a PACKED part, on (R57, R58). -/
def Obligations.ImagesHaveTheLengthOfTheirParts : Prop :=
  (∀ r : CaptureRecord, (∀ p ∈ r.parts, skippedBytes p + dataLength p ≤ (storedBytes p).length) →
    (recordImage r).length
        = 32 + (r.parts.map fun p => 16 +
            (match p.format with
             | .full => 2 * (p.preCount + p.postCount)
             | .packed => if p.preCount + p.postCount = 0 then 0
                 else 17 * ((p.leadTotal % 16 + (p.preCount + p.postCount) + 15) / 16))).sum
          + 8 * r.retriggers.length
    ∧ (recordImage r).length = imageLength r
    ∧ (imageHeader r).length = 32 ∧ recordImage r = imageHeader r ++ (recordImage r).drop 32)
  ∧ (∀ r : CaptureRecord, imageLength r
      = 32 + (r.parts.map fun p => 16 +
            (match p.format with
             | .full => 2 * (p.preCount + p.postCount)
             | .packed => if p.preCount + p.postCount = 0 then 0
                 else 17 * ((p.leadTotal % 16 + (p.preCount + p.postCount) + 15) / 16))).sum
          + 8 * r.retriggers.length)
  ∧ (∀ r : CaptureRecord, recordImage r
      = imageHeader r ++ r.parts.flatMap (fun p => streamSection p ++ partData p) ++ r.retriggers.flatMap retriggerEntry)
  ∧ (∀ (r : CaptureRecord) (stream : Nat) (index : SampleIndex) (value : Sample) (close : Time),
      stream = (match r.sample with | some x => x.stream.val | none => 0) →
      index = (match r.sample with | some x => x.index | none => 0) →
      value = (match r.sample with | some x => x.value | none => 0) → close = r.closeTime.getD 0 →
      imageHeader r
        = [byteOf r.number, byteOf (r.number / 256), byteOf r.profile.val, flagsByte { r.flags with read := false },
            sourceByte r.source, byteOf r.parts.length, byteOf r.retriggers.length, byteOf stream]
          ++ timeBytes r.time
          ++ [byteOf index.toNat, byteOf (index.toNat / 256), byteOf (index.toNat / 256 ^ 2),
            byteOf (index.toNat / 256 ^ 3)]
          ++ [byteOf value.toNat, byteOf (value.toNat / 256)] ++ timeBytes close
          ++ [byteOf r.requestedPre, byteOf (r.requestedPre / 256), byteOf r.requestedPost,
            byteOf (r.requestedPost / 256), byteOf (imageLength r), byteOf (imageLength r / 256)])
  ∧ (∀ (p : StreamPart) (settings : Byte), settings = byteOf
        ((match p.polarity with | .normal => 0 | .inverted => 1) + 2 * p.gain.val + (if p.starved then 8 else 0)) →
      streamSection p
        = [byteOf p.stream.val, formatByte p.format, byteOf p.input.val, settings, byteOf p.decimation,
            byteOf (match p.format with | .full => 0 | .packed => p.leadTotal % 16)]
          ++ [byteOf p.preCount, byteOf (p.preCount / 256), byteOf p.postCount, byteOf (p.postCount / 256)]
          ++ [byteOf p.firstIndex.toNat, byteOf (p.firstIndex.toNat / 256), byteOf (p.firstIndex.toNat / 256 ^ 2),
            byteOf (p.firstIndex.toNat / 256 ^ 3)]
          ++ [byteOf (dataLength p), byteOf (dataLength p / 256)])
  ∧ (∀ p : StreamPart, partData p
      = (((p.run.pages.flatMap fun page => page.content).drop
          (match p.format with | .full => 2 * p.leadTotal | .packed => 17 * (p.leadTotal / 16))).take (dataLength p)))
  ∧ ∀ e : Retrigger, retriggerEntry e = [sourceByte e.source, if e.extended then 0x01 else 0x00] ++ timeBytes e.time

/-- R51, R52: the shift of a block is the least in 0 to 8 that brings every stored sample into a signed byte; each mantissa
times 2^s lies within 2^s - 1 below its sample, and the positions never filled are zero. R3, R4: storing a sample raises
the tail page's fill by 1; a FULL sample is written after the tail page's bytes, low byte first; a PACKED one joins the
pending block, and the sixteenth has the block encoded into the tail page. R15: a pending block that is not empty is
encoded when the stream stops collecting. That a FULL sample's low byte stands first inside the page is the model's reading
(log 20). -/
def Obligations.BlocksTakeTheLeastShift : Prop :=
  (∀ (x : Sample) (older : List Page) (tail : Page) (fill : Nat) (block : List Sample) (run : PageRun),
    run = { pages := older ++ [tail], fill := fill, pendingBlock := block } →
    storeSample .full x run
        = { run with
            pages := older ++ [{ tail with content := tail.content ++ [byteOf x.toNat, byteOf (x.toNat / 256)] }]
            fill := fill + 1 }
    ∧ (block.length < 15 → storeSample .packed x run = { run with fill := fill + 1, pendingBlock := block ++ [x] })
    ∧ (block.length = 15 → storeSample .packed x run
        = { pages := older ++ [{ tail with content := tail.content ++ encodeBlock (block ++ [x]) }]
            fill := fill + 1
            pendingBlock := [] })
    ∧ (block ≠ [] → encodePending run
        = { pages := older ++ [{ tail with content := tail.content ++ encodeBlock block }]
            fill := fill
            pendingBlock := [] })
    ∧ (block = [] → encodePending run = run))
  ∧ ∀ samples : List Sample, samples.length ≤ 16 →
    blockShift samples ≤ 8
    ∧ (∀ x ∈ samples, -128 ≤ x.toInt / (2 ^ blockShift samples : Nat) ∧ x.toInt / (2 ^ blockShift samples : Nat) ≤ 127)
    ∧ (∀ n < blockShift samples, ∃ x ∈ samples, ¬ (-128 ≤ x.toInt / (2 ^ n : Nat) ∧ x.toInt / (2 ^ n : Nat) ≤ 127))
    ∧ (∀ x ∈ samples, (mantissa (blockShift samples) x).toInt * (2 ^ blockShift samples : Nat) ≤ x.toInt
        ∧ x.toInt ≤ (mantissa (blockShift samples) x).toInt * (2 ^ blockShift samples : Nat)
            + ((2 ^ blockShift samples : Nat) - 1))
    ∧ encodeBlock samples = byteOf (blockShift samples) ::
        (samples.map (mantissa (blockShift samples)) ++ List.replicate (16 - samples.length) 0)

/-! ## Transmission -/

/-- TX_CHARACTER_BOUNDARY that ends no frame (R173, R175, R179, R180). Inside a frame: the next character, or SUSPEND when a
frame of a higher class is pending and the character just sent is no ESCAPE. During an abort: what it still has to send, an
escape's follower and then ABORT. With no frame being sent, after a SUSPEND, and after an ABORT that no reset awaits, the
unit chooses. That the time left of the character passes first (`v`) is log 3, and that nothing happens on an idle line is
log 4: both are the model's choice. -/
def Obligations.BoundaryContinuesOrSuspends : Prop :=
  ∀ (pins : PinLevels) (s u : State), Finds s u →
    (∀ (just next : Byte) (rest : List Byte) (f : Frame) (v : State), v = elapse u.transmit.lineTime u →
      u.transmit.line = some just → just ≠ 0xE5 → u.transmit.tail = [] →
      u.transmit.sending = some { frame := f, unsent := next :: rest } →
      (just ≠ 0xE4 ∧ ((frameClass f = .normal ∧ u.transmit.urgent ≠ []) ∨
          (frameClass f = .bulk ∧ (u.transmit.urgent ≠ [] ∨ u.transmit.normal ≠ []))) →
        exec (.txCharacterBoundary pins) s = .next (conclude
          { v with
            transmit := onLine 0xE2
              { v.transmit with
                sending := none
                suspended := { frame := f, unsent := next :: rest } :: u.transmit.suspended } }))
      ∧ (¬ (just ≠ 0xE4 ∧ ((frameClass f = .normal ∧ u.transmit.urgent ≠ []) ∨
          (frameClass f = .bulk ∧ (u.transmit.urgent ≠ [] ∨ u.transmit.normal ≠ [])))) →
        exec (.txCharacterBoundary pins) s = .next (conclude
          { v with transmit := onLine next { v.transmit with sending := some { frame := f, unsent := rest } } })))
    ∧ (∀ (just c : Byte) (rest : List Byte) (v : State), v = elapse u.transmit.lineTime u → u.transmit.line = some just →
      u.transmit.tail = c :: rest →
      exec (.txCharacterBoundary pins) s = .next (conclude
        { v with transmit := onLine c { v.transmit with tail := rest } }))
    ∧ (∀ (just : Byte) (v : State), v = elapse u.transmit.lineTime u → u.transmit.line = some just →
      u.transmit.tail = [] →
      (just ≠ 0xE5 ∧ u.transmit.sending = none) ∨ (just = 0xE5 ∧ u.resetting.awaited = none) →
      exec (.txCharacterBoundary pins) s = .next (conclude (chooseFrame v)))
    ∧ (u.transmit.line = none → exec (.txCharacterBoundary pins) s = .next (conclude u))

/-- TX_CHARACTER_BOUNDARY at the end of a frame (R64, R138, R172, R174, R181): the completion goes to the frame's owner,
and then the unit chooses; with nothing suspended the end of a Restart's reply is the restart, and over a suspended frame
ABORT goes first and the restart awaits it. That the time left of the character passes first (it stands in `v`) is log 3,
that the restart drops the triggers and alarm requests on their way is log 27, and its other values are those of log 9: all
three are the model's choice. -/
def Obligations.FrameEndsGoToTheirOwners : Prop :=
  ∀ (pins : PinLevels) (s u : State) (just : Byte) (f : Frame) (v : State), Finds s u →
    u.transmit.line = some just → just ≠ 0xE5 → u.transmit.tail = [] →
    u.transmit.sending = some { frame := f, unsent := [] } →
    v = { elapse u.transmit.lineTime u with
          transmit := { (elapse u.transmit.lineTime u).transmit with sending := none } } →
    ((f.kind = .reply ∨ f.kind = .notice ∨ ∃ id drop, f.kind = .alarmReport id drop false) →
        exec (.txCharacterBoundary pins) s = .next (conclude (chooseFrame v)))
    ∧ (∀ id drop, f.kind = .alarmReport id drop true →
        exec (.txCharacterBoundary pins) s = .next (conclude (chooseFrame
          { v with
            alarms := changeFirst (fun e => e.id == id)
              (fun e => if e.state = .queued
                then { e with sendCount := e.sendCount + 1, state := .waiting (milliseconds 200) } else e) v.alarms })))
    ∧ (∀ chunk, f.kind = .chunk → u.transmit.bulk = some chunk →
        ¬ (chunk.last = true ∧ chunk.ofReadout = true ∧ u.readout.state = .finishing) →
        exec (.txCharacterBoundary pins) s = .next (conclude (chooseFrame
          { v with transmit := { v.transmit with bulk := none } })))
    ∧ (∀ chunk, f.kind = .chunk → u.transmit.bulk = some chunk →
        chunk.last = true → chunk.ofReadout = true → u.readout.state = .finishing →
        exec (.txCharacterBoundary pins) s = .next (conclude (chooseFrame
          { v with
            transmit := { v.transmit with bulk := none }
            readout := resetReadout
            records := changeFirst (fun r => r.number == u.readout.record)
              (fun r => { r with state := .closed, flags := { r.flags with read := true } }) v.records })))
    ∧ (f.kind = .restartReply → u.transmit.suspended = [] →
        exec (.txCharacterBoundary pins) s = .next (afterReset .request pins u))
    ∧ (f.kind = .restartReply → u.transmit.suspended ≠ [] →
        exec (.txCharacterBoundary pins) s = .next (conclude
          { v with
            transmit := onLine 0xE5 v.transmit
            resetting := { v.resetting with awaited := some .restart } }))

/-- The choice at a boundary (R171 to R173, R176): the head of the URGENT queue, else of the NORMAL queue, when it ranks
above the suspended frame; else RESUME; else, with nothing suspended, a bulk chunk or an idle line. -/
def Obligations.ChoiceFollowsTheClasses : Prop :=
  ∀ s : State,
    (∀ (f : Frame) (rest : List Frame), s.transmit.urgent = f :: rest →
      (∀ t ∈ s.transmit.suspended.head?, frameClass t.frame ≠ .urgent) →
      chooseFrame s = { s with
        transmit := onLine 0xE1
          { s.transmit with urgent := rest, sending := some { frame := f, unsent := (frameCharacters f).tail } } })
    ∧ (∀ (f : Frame) (rest : List Frame), s.transmit.urgent = [] → s.transmit.normal = f :: rest →
      (∀ t ∈ s.transmit.suspended.head?, frameClass t.frame = .bulk) →
      chooseFrame s = { s with
        transmit := onLine 0xE1
          { s.transmit with normal := rest, sending := some { frame := f, unsent := (frameCharacters f).tail } } })
    ∧ (∀ (t : Transmission) (rest : List Transmission), s.transmit.suspended = t :: rest → s.transmit.urgent = [] →
      (s.transmit.normal = [] ∨ frameClass t.frame ≠ .bulk) →
      chooseFrame s = { s with transmit := onLine 0xE3 { s.transmit with sending := some t, suspended := rest } })
    ∧ (s.transmit.suspended = [] → s.transmit.urgent = [] → s.transmit.normal = [] →
      s.readout.state ≠ .active → chooseFrame s = { s with transmit := { s.transmit with line := none, lineTime := 0 } })

/-- The next chunk of an ACTIVE readout (R63): up to 236 image bytes from the current offset, BULK_LAST with FINISHING
when they reach the image's end, and its OPEN at once (R172). -/
def Obligations.ChunksCarryTheImage : Prop :=
  ∀ (s : State) (r : CaptureRecord), s.transmit.suspended = [] → s.transmit.urgent = [] → s.transmit.normal = [] →
    s.transmit.bulk = none → s.readout.state = .active → findRecord s.readout.record s = some r →
    ∃ (chunk : BulkChunk) (d : Nat),
      d = min 236 (s.readout.length - s.readout.offset)
      ∧ chunk.frame = { kind := .chunk, type := if s.readout.offset + d = s.readout.length then 0x61 else 0x60,
                        tag := s.readout.tag,
                        payload := [byteOf s.readout.record, byteOf (s.readout.record / 256), byteOf s.readout.offset,
                            byteOf (s.readout.offset / 256)] ++ ((recordImage r).drop s.readout.offset).take d }
      ∧ chunk.offset = s.readout.offset ∧ chunk.ofReadout = true
      ∧ chunk.last = decide (s.readout.offset + d = s.readout.length)
      ∧ chooseFrame s =
          { s with
            readout := { s.readout with
              offset := s.readout.offset + d
              state := if s.readout.offset + d = s.readout.length then .finishing else .active }
            transmit := onLine 0xE1
              { s.transmit with
                bulk := some chunk
                sending := some { frame := chunk.frame, unsent := (frameCharacters chunk.frame).tail } } }

/-! ## Rounds and filters -/

/-- PACER_EXPIRY and CONV_IN_EDGE as start events (R94, R95, R97 to R99, R222): with no round in progress a round begins
with the Timebase value as its start time; during one ROUND_OVERRUN rises. (ConversionsHandOverTheirSample spells the slots a
round converts and their times.) The pacer's next expiry is one period after the
one due. Every other edge on CONV_IN only moves the accepted level. The model's choice: the time left to the expiry passes
first (log 3), nothing happens while the pacer is STOPPED (log 4), and an edge to the level already accepted is none
(log 23). -/
def Obligations.StartEventsBeginRoundsOrOverrun : Prop :=
  ∀ s u : State, Finds s u →
    (∀ (period : Nat) (left : Int) (v : State), u.pacer = .running period left →
      v = { elapse left.toNat u with pacer := .running period (left - left.toNat + period) } →
      (∀ k, u.round = .noRound → (convertedStreams u).head? = some k →
        exec .pacerExpiry s = .next (conclude
          { v with round := .inRound v.clock.timebase k (microseconds (slotMicroseconds (slotOf k u))) }))
      ∧ (u.round ≠ .noRound → exec .pacerExpiry s = .next (conclude (countUp .roundOverrun v))))
    ∧ (u.pacer = .stopped → exec .pacerExpiry s = .next (conclude u))
    ∧ (∀ edge : Edge, u.pins.convIn = edgeLevel edge → exec (.convInEdge edge) s = .next (conclude u))
    ∧ (∀ (edge : Edge) (v : State), u.pins.convIn ≠ edgeLevel edge →
      v = { u with pins := { u.pins with convIn := edgeLevel edge } } →
      (edge = .falling ∨ u.settings.source ≠ .external ∨ u.acquisition = .idle →
        exec (.convInEdge edge) s = .next (conclude v))
      ∧ (∀ k, edge = .rising → u.settings.source = .external → u.acquisition ≠ .idle → u.round = .noRound →
        (convertedStreams u).head? = some k →
        exec (.convInEdge edge) s = .next (conclude
          { v with round := .inRound u.clock.timebase k (microseconds (slotMicroseconds (slotOf k u))) }))
      ∧ (edge = .rising → u.settings.source = .external → u.acquisition ≠ .idle → u.round ≠ .noRound →
        exec (.convInEdge edge) s = .next (conclude (countUp .roundOverrun v))))

/-- CONVERSION_COMPLETE (R90, R91, R93, R96, R113, R224): the raw code is 2048 plus the amplified offset from 2.5 V in steps
of 1 mV, clipped to 0 to 4095, and between two steps one of the two (a free value, log 6); the signed sample enters the delay
line and the count, and the next conversion begins or the round ends. A round converts the slots of the enabled streams in
ascending number, each for 4 + 2e us, and the round time is their sum; the offset is amplified by 2 to the gain code. The
model's choice: the time left of the conversion passes first (log 3), with no conversion in progress nothing happens (log 4),
and an earlier output of the stream that is still due is taken first, an event of its own (`w`; logs 12, 14), with the
triggers it must follow in the order sent (log 15). -/
def Obligations.ConversionsHandOverTheirSample : Prop :=
  (∀ (level : Nat) (s u : State), Finds s u →
    (u.round = .noRound → exec (.conversionComplete level) s = .next (conclude u))
    ∧ ∀ (start₀ : Time) (k : Fin 16) (left₀ : Int) (w : State), u.round = .inRound start₀ k left₀ →
      w = (if u.filters[k].due = none then u else settle (conclude (takeOutput k u))) →
      (w.round = .noRound → exec (.conversionComplete level) s = .next (conclude w))
      ∧ ∀ (start : Time) (left : Int) (v : State), w.round = .inRound start k left → v = elapse left.toNat w →
        ∃ (code sample : Int) (draws : Nat),
          (code = max 0 (min 4095 (2048 + amplified (slotOf k w).gain level / 1000))
            ∨ (amplified (slotOf k w).gain level % 1000 ≠ 0
                ∧ code = max 0 (min 4095 (2049 + amplified (slotOf k w).gain level / 1000))))
          ∧ sample = (match (slotOf k w).polarity with
              | .normal => code - 2048
              | .inverted => if code = 0 then 2047 else -(code - 2048))
          ∧ exec (.conversionComplete level) s = .next (conclude
              { v with
                draws := draws
                filters := put v.filters k
                  { v.filters[k] with
                    delayLine := (sample :: v.filters[k].delayLine).take v.filters[k].delayLine.length
                    count := v.filters[k].count + 1
                    due := if v.filters[k].count + 1 = w.streams[k].decimation
                      then some { value := sample, start := start } else none }
                round := match slotAfter k w with
                  | some j => .inRound start j (microseconds (slotMicroseconds (slotOf j w)) + min left 0)
                  | none => .noRound }))
  ∧ (∀ s : State, convertedStreams s
      = (List.finRange 16).filter fun k => s.streams[k].enabled && decide (k.val < s.scan.length))
  ∧ (∀ (k j : Fin 16) (s : State), slotAfter k s = some j ↔
      (k < j ∧ j ∈ convertedStreams s ∧ ∀ i ∈ convertedStreams s, k < i → j ≤ i))
  ∧ (∀ slot : Slot, slotMicroseconds slot = 4 + 2 * slot.settle.val)
  ∧ (∀ s : State, roundMicroseconds s = ((convertedStreams s).map fun k => 4 + 2 * (slotOf k s).settle.val).sum)
  ∧ (∀ (k : Fin 16) (slot : Slot) (s : State), s.scan[k.val]? = some slot → slotOf k s = slot)
  ∧ ∀ (gain : Fin 4) (level : Nat), amplified gain level = ((level : Int) - 2500000) * (2 ^ gain.val : Nat)

/-- DECIMATION_OUTPUT (R113 to R117, R8, R72, R75): the triggers on their way from the stream's watches are taken first
(`u₁`), each an event of its own with what follows it (R84, R173; log 12); the filtered sample is the clamped output, counted
when it saturates; the count returns to 0 and the index rises by 1; the sink stores the sample, and then the watches judge it
(`deliver`). A window cut that closes the last OPEN record of a drain ends the drain: the outputs of other streams that are
due are delivered first (`z`), acquisition is IDLE, the part is quiet and ACQUISITION_IDLE (DRAINED) follows (R14, R43, R119,
R128, R130). The model's choice: with no output due nothing happens (log 4); several triggers on their way are taken in the
order in which they were sent (log 15; R84 allows either order); the order inside a window cut (log 18); several outputs that
are due at the end of a drain are delivered in ascending stream number (log 14). -/
def Obligations.OutputsAreStoredAndJudged : Prop :=
  ∀ (k : Fin 16) (s u : State), Finds s u →
    (u.filters[k].due = none → exec (.decimationOutput k) s = .next (conclude u))
    ∧ ∀ (raw : RawSample) (y : Int) (x : FilteredSample) (u₁ v w : State), u.filters[k].due = some raw →
      u₁ = (u.triggers.filter (ofStream k)).foldl (fun a t => conclude (takeTrigger t a))
        { u with triggers := u.triggers.filter fun t => !ofStream k t } →
      y = (match u.streams[k].filter with
        | .bypass => 16 * raw.value
        | .coefficients set => accumulate u.coefficients[set].coefficients u.filters[k].delayLine
            / (2 ^ u.coefficients[set].shift : Nat)) →
      x = { stream := k, value := BitVec.ofInt 16 (max (-32768) (min 32767 y)), index := u.filters[k].index,
            time := raw.start } →
      v = { u₁ with
            filters := put u.filters k { u.filters[k] with count := 0, index := u.filters[k].index + 1, due := none } } →
      w = (match u₁.sinks[k] with
        | .none => if y < -32768 ∨ 32767 < y then countUp .filterSaturation v else v
        | .ring => ringStore k x.value (if y < -32768 ∨ 32767 < y then countUp .filterSaturation v else v)
        | .capture n => captureStore n k x.value (if y < -32768 ∨ 32767 < y then countUp .filterSaturation v else v)) →
      deliver k u = { w with watches := w.watches.map (judge x) }
      ∧ ((u.acquisition = .draining → anyOpen w = true) →
        exec (.decimationOutput k) s = .next (conclude { w with watches := w.watches.map (judge x) }))
      ∧ ∀ z : State, u.acquisition = .draining → anyOpen w = false → z = outstandingDelivered w →
        exec (.decimationOutput k) s = .next (conclude (raiseNotice
          (.acquisitionIdle .drained z.clock.timebase z.records.length) (quieted z)))

/-- The accumulator is the exact sum of c[i] times x[n-i], the newest sample first in the delay line (R114), and stays in the
range that R114 gives, for raw samples in -2048 to 2047 and at most 32 taps; a bypass
output is 16 times its raw sample and never saturates (R115, R116). -/
def Obligations.OutputsStayInTheirRange : Prop :=
  (∀ (coefficients : List Sample) (line : List Int), accumulate coefficients line
      = ((List.range coefficients.length).map fun i => (coefficients.getD i 0).toInt * line.getD i 0).sum) ∧
  (∀ (coefficients : List Sample) (line : List Int), coefficients.length ≤ 32 → (∀ x ∈ line, -2048 ≤ x ∧ x ≤ 2047) →
      -2147418112 ≤ accumulate coefficients line ∧ accumulate coefficients line ≤ 2147483648)
  ∧ (∀ y : Int, (saturated y).toInt = max (-32768) (min 32767 y))
  ∧ ∀ x : Int, -2048 ≤ x → x ≤ 2047 → saturates (16 * x) = false ∧ (saturated (16 * x)).toInt = 16 * x
      ∧ -32768 ≤ 16 * x ∧ 16 * x ≤ 32752

/-! ## Capture memory -/

/-- R10, R11: what a ring does with a delivered sample, by its pages, its tail fill f and its depth H. R13, R14: a collecting
stream stores its sample as a post sample, on a page it asks for when its tail is full; with no page left its window is
cut: it stops collecting, the record gains TRUNCATED and STREAM_TRUNCATED rises. That the cut is counted, with its FAULT
notice, before the record closes is the model's reading (log 18). -/
def Obligations.SamplesAreStoredByTheirSink : Prop :=
  (∀ (k : Fin 16) (x : Sample) (s : State) (run : PageRun) (format : Format), run = s.rings[k].run →
    format = s.streams[k].format →
    (run.pages ≠ [] → run.fill < positions format →
      ringStore k x s = setRing k { run := storeSample format x run, starved := s.rings[k].starved } s)
    ∧ (∀ (p : Page) (rest : List Page), run.pages = p :: rest → positions format ≤ run.fill →
      s.streams[k].history ≤ run.pages.length →
      ringStore k x s = setRing k
        { run := storeSample format x { pages := rest ++ [{ p with content := [] }], fill := 0, pendingBlock := [] },
          starved := s.rings[k].starved } s)
    ∧ (run.pages = [] ∨ positions format ≤ run.fill → run.pages.length < s.streams[k].history →
      (∀ (p : Page) (rest : List Page), s.free = p :: rest → 8 < s.free.length →
        ringStore k x s = setRing k
          { run := storeSample format x
              { pages := run.pages ++ [{ p with content := [] }], fill := 0, pendingBlock := [] },
            starved := false } { s with free := rest })
      ∧ (∀ (p : Page) (rest : List Page), s.free.length ≤ 8 → run.pages = p :: rest →
        ringStore k x s = setRing k
          { run := storeSample format x { pages := rest ++ [{ p with content := [] }], fill := 0, pendingBlock := [] },
            starved := true } s)
      ∧ (s.free.length ≤ 8 → run.pages = [] → ringStore k x s = countUp .historyLost s)))
  ∧ ∀ (n : Nat) (k : Fin 16) (x : Sample) (s : State) (r : CaptureRecord) (p : StreamPart),
    findRecord n s = some r → findPart k r = some p →
    (p.run.pages ≠ [] → p.run.fill < positions p.format →
      captureStore n k x s = changePart n k
        (fun q => { q with run := storeSample p.format x p.run, postCount := q.postCount + 1,
                           remaining := q.remaining - 1 }) s)
    ∧ (p.run.pages = [] ∨ positions p.format ≤ p.run.fill →
      (∀ (page : Page) (rest : List Page), s.free = page :: rest →
        captureStore n k x s = changePart n k
          (fun q => { q with
            run := storeSample p.format x
              { pages := p.run.pages ++ [{ page with content := [] }], fill := 0, pendingBlock := [] }
            postCount := q.postCount + 1
            remaining := q.remaining - 1 }) { s with free := rest })
      ∧ (s.free = [] →
        captureStore n k x s = closeIfDone n (countUp .streamTruncated
          (changeFlags n (fun f => { f with truncated := true }) (stopCollecting n k s)))))

/-- R16: the pages a handover takes and the positions it skips, for a ring of n pages with tail fill f and an available
pre count p: the pages lie in the ring, the skip lies in 0 to C - 1, and the pages taken hold the skip and the p samples
exactly. -/
def Obligations.HandoverTakesExactlyTheWindow : Prop :=
  ∀ (format : Format) (n f p k lead C : Nat), C = positions format → 1 ≤ n → 1 ≤ f → f ≤ C → p ≤ (n - 1) * C + f →
    k = pagesTaken format p f → lead = leadingSkip format p f →
    k ≤ n ∧ lead ≤ C - 1
    ∧ (p = 0 → k = 0 ∧ lead = 0)
    ∧ (0 < p → p ≤ f → k = 1 ∧ lead = f - p)
    ∧ (f < p → k = 1 + (p - f + C - 1) / C ∧ lead + p = (k - 1) * C + f)

/-- POST_COUNT_REACHED (R15, R39 to R42): it is due when the stream's sink names a record in whose part the stream is
collecting with a remaining post count of 0. The stream stops collecting, its ring is empty and its sink is RING or NONE;
when no part of the record is collecting any more, the record is SEALED with its close time, its profile has no OPEN
record and CAPTURE_DONE is raised (`c`). The end of a drain (R43, R119, R128, R130): when it closes the last OPEN record,
the outputs that are due are delivered (`z`), acquisition is IDLE, the part is quiet, and ACQUISITION_IDLE (DRAINED) follows
CAPTURE_DONE. The model's choice: with no post count reached nothing happens (log 4), and several outputs that are due are
delivered in ascending stream number, each an event of its own (logs 12, 14), their triggers taken in the order sent (log 15).
-/
def Obligations.PostCountsStopCloseAndEndTheDrain : Prop :=
  (∀ (k : Fin 16) (n : Nat) (s : State), postCountDue k s = some n ↔
    (s.sinks[k] = .capture n ∧ ∃ (r : CaptureRecord) (p : StreamPart),
      findRecord n s = some r ∧ findPart k r = some p ∧ p.collecting = true ∧ p.remaining = 0)) ∧
  (∀ (k : Fin 16) (s : State), Live s →
    (postCountDue k s = none → exec (.postCountReached k) s = .next (conclude s))
    ∧ ∀ (n : Nat) (r : CaptureRecord) (parts : List StreamPart) (v c : State), postCountDue k s = some n →
      findRecord n s = some r →
      parts = changeFirst (fun p => p.stream == k)
        (fun p => { p with run := encodePending p.run, collecting := false, remaining := 0 }) r.parts →
      v = { s with
            records := changeFirst (fun x => x.number == n) (fun x => { x with parts := parts }) s.records
            free := s.free ++ s.rings[k].run.pages.map blankPage
            rings := put s.rings k emptyRing
            sinks := put s.sinks k (if s.streams[k].history = 0 then .none else .ring) } →
      c = { v with
            records := changeFirst (fun x => x.number == n)
              (fun x => { x with parts := parts, state := .closed, closeTime := some s.clock.timebase }) s.records
            openRecord := put s.openRecord r.profile none } →
      ((∃ p ∈ parts, p.collecting = true) → (s.acquisition = .draining → ∃ x ∈ v.records, x.state = .opened) →
        exec (.postCountReached k) s = .next (conclude v))
      ∧ (r.state = .opened → (∀ p ∈ parts, p.collecting = false) →
        (s.acquisition = .draining → ∃ x ∈ c.records, x.state = .opened) →
        exec (.postCountReached k) s = .next (conclude (raiseNotice
          (.captureDone n r.flags (imageLength { r with parts := parts })) c)))
      ∧ (∀ z : State, r.state = .opened → (∀ p ∈ parts, p.collecting = false) → s.acquisition = .draining →
        (∀ x ∈ c.records, x.state ≠ .opened) →
        z = outstandingDelivered (raiseNotice (.captureDone n r.flags (imageLength { r with parts := parts })) c) →
        exec (.postCountReached k) s = .next (conclude (raiseNotice
          (.acquisitionIdle .drained z.clock.timebase z.records.length) (quieted z)))))
  ∧ ∀ (k : Fin 16) (n : Nat) (r : CaptureRecord) (s : State), Live s → RecordNumbersSound s → PartsDistinct r →
    s.acquisition = .draining → postCountDue k s = some n → findRecord n s = some r → r.state = .opened →
    (∀ x ∈ s.records, x.state = .opened → x.number = n) → (∀ p ∈ r.parts, p.collecting = true → p.stream = k) →
    ∃ t : State, exec (.postCountReached k) s = .next t ∧ t.acquisition = .idle ∧ Quiet t
      ∧ (recordNumbers t = recordNumbers s) ∧ (∀ w : Fin 8, t.watches[w].state = .disarmed)
      ∧ ∃ y ∈ t.records, y.number = n ∧ y.state = .closed ∧ y.closeTime = some s.clock.timebase

/-! ## Watches, triggers and alarms -/

/-- R71 to R74, R77, R78: what a watch does with a sample. A DISARMED watch and one on another stream do nothing; every
other takes the sample as its previous one. While ARMED or QUALIFYING a sample that meets the condition raises the qualify
count, and at q the watch is due to fire; one that does not returns it to ARMED with count 0. In HOLDOFF the count falls by
1; in REARM_WAIT the re-arm condition gives ARMED. -/
def Obligations.WatchesJudgeTheirSamples : Prop :=
  ∀ (x : FilteredSample) (w : Watch) (d : WatchDefinition) (v : Int) (meets rearm : Prop), d = w.definition →
    v = x.value.toInt →
    meets = (match d.kind with
      | .above => v > d.high.toInt
      | .below => v < d.low.toInt
      | .outside => v > d.high.toInt ∨ v < d.low.toInt
      | .step => ∃ p, w.previous = some p ∧ |v - p.toInt| > d.high.toInt) →
    rearm = (match d.kind with
      | .above => v ≤ d.high.toInt - d.hysteresis
      | .below => d.low.toInt + d.hysteresis ≤ v
      | .outside => v ≤ d.high.toInt - d.hysteresis ∧ d.low.toInt + d.hysteresis ≤ v
      | .step => ∃ p, w.previous = some p ∧ |v - p.toInt| ≤ d.high.toInt - d.hysteresis) →
    (w.state = .disarmed ∨ d.stream ≠ x.stream → judge x w = w)
    ∧ (d.stream = x.stream →
      (w.state = .armed ∨ w.state = .qualifying →
        (meets → w.qualifyCount + 1 < d.qualify →
          judge x w = { w with state := .qualifying, qualifyCount := w.qualifyCount + 1, previous := some x.value })
        ∧ (meets → d.qualify ≤ w.qualifyCount + 1 →
          judge x w = { w with qualifyCount := w.qualifyCount + 1, firing := some x, previous := some x.value }))
      ∧ (w.state = .armed → ¬ meets → judge x w = { w with previous := some x.value })
      ∧ (w.state = .qualifying → ¬ meets →
        judge x w = { w with state := .armed, qualifyCount := 0, previous := some x.value })
      ∧ (w.state = .holdoff → judge x w = { w with holdoffCount := w.holdoffCount - 1, previous := some x.value })
      ∧ (w.state = .rearmWait → rearm → judge x w = { w with state := .armed, previous := some x.value })
      ∧ (w.state = .rearmWait → ¬ rearm → judge x w = { w with previous := some x.value }))

/-- WATCH_FIRE and WATCH_HOLDOFF_END (R75 to R77, R79): a firing sends its trigger, or with profile NONE its alarm
request, and the watch moves on by its definition; a holdoff that has counted down gives REARM_WAIT. `v` is the state with
the post counts settled: that they go first, because the store stage of the sample does (R8), is the model's choice (log 1),
and so is that a firing or a holdoff end that is not due changes nothing (log 4). -/
def Obligations.WatchesFireAndMoveOn : Prop :=
  ∀ (w : Fin 8) (s v : State), Live s → settlePostCounts s = v →
    (v.watches[w].firing = none → exec (.watchFire w) s = .next (conclude v))
    ∧ (∀ (x : FilteredSample) (d : WatchDefinition), v.watches[w].firing = some x → d = v.watches[w].definition →
      exec (.watchFire w) s = .next (conclude
        { v with
          watches := put v.watches w
            { v.watches[w] with
              qualifyCount := 0
              firing := none
              state := if d.oneShot then .disarmed else if d.holdoff = 0 then .rearmWait else .holdoff
              holdoffCount := if d.oneShot = false ∧ d.holdoff ≠ 0 then d.holdoff else v.watches[w].holdoffCount }
          triggers := v.triggers ++ (match d.profile with
            | some p => [{ profile := p, source := .watch w, time := x.time,
                           sample := some { stream := x.stream, index := x.index, value := x.value },
                           alarm := d.alarm, earlierRun := false }]
            | none => [])
          alarmRequests := v.alarmRequests ++ (if d.profile = none ∧ d.alarm = true then
              [{ source := .watch w, time := x.time, value := some x.value, record := none }] else []) }))
    ∧ (v.watches[w].state = .holdoff → v.watches[w].holdoffCount = 0 →
      exec (.watchHoldoffEnd w) s = .next (conclude
        { v with watches := put v.watches w { v.watches[w] with state := .rearmWait } }))
    ∧ (v.watches[w].state ≠ .holdoff ∨ v.watches[w].holdoffCount ≠ 0 →
      exec (.watchHoldoffEnd w) s = .next (conclude v))

/-- TRIG_IN_EDGE (R86, R87, R222): an edge of the selected direction fires an ARMED external trigger with the Timebase
value as its time, and the holdoff starts; every other edge only moves the accepted level. That an edge to the level already
accepted changes nothing is the model's reading (log 23). -/
def Obligations.TrigInEdgesFireTheExternalTrigger : Prop :=
  ∀ (edge : Edge) (s u : State), Finds s u →
    (u.pins.trigIn = edgeLevel edge → exec (.trigInEdge edge) s = .next (conclude u))
    ∧ ∀ (d : ExternalDefinition) (v : State), d = u.external.definition → u.pins.trigIn ≠ edgeLevel edge →
      v = { u with pins := { u.pins with trigIn := edgeLevel edge } } →
      (u.external.state ≠ .armed ∨ d.edge ≠ edge → exec (.trigInEdge edge) s = .next (conclude v))
      ∧ (u.external.state = .armed → d.edge = edge →
        exec (.trigInEdge edge) s = .next (conclude
          { v with
            external := { u.external with
              state := if d.holdoff = 0 then .armed else .holdoff (microseconds d.holdoff) }
            triggers := u.triggers ++ (match d.profile with
              | some p => [{ profile := p, source := .external, time := u.clock.timebase, sample := none,
                             alarm := d.alarm, earlierRun := false }]
              | none => [])
            alarmRequests := u.alarmRequests ++ (if d.profile = none ∧ d.alarm = true then
              [{ source := .external, time := u.clock.timebase, value := none, record := none }] else []) }))

/-- EXTERNAL_HOLDOFF_EXPIRY and TRIG_OUT_PULSE_END (R34, R87): the external trigger is ARMED and TRIG_OUT is low. That the
time left passes first is log 3, and that nothing happens outside a holdoff or a pulse is log 4: both are the model's
choice. -/
def Obligations.HoldoffsAndPulsesEnd : Prop :=
  ∀ s u : State, Finds s u →
    (∀ left, u.external.state = .holdoff left → exec .externalHoldoffExpiry s = .next (conclude
        { elapse left u with external := { u.external with state := .armed } }))
    ∧ ((∀ left, u.external.state ≠ .holdoff left) → exec .externalHoldoffExpiry s = .next (conclude u))
    ∧ (∀ left, u.pins.trigOut = some left → exec .trigOutPulseEnd s = .next (conclude
        { elapse left u with pins := { u.pins with trigOut := none } }))
    ∧ (u.pins.trigOut = none → exec .trigOutPulseEnd s = .next (conclude u))

/-- TRIGGER that opens no record (R25 to R30, R76): LOST (STOPPED) outside RUNNING or from an earlier run; RETRIGGERED with
an entry and an extension, or RETRIG_OVERFLOW on a full list; LOST (OVERLAP); LOST (FULL) under REFUSE_NEW. Each makes the
alarm request of its firing with its outcome. The command names a trigger by its place among those on their way (log 15);
that it changes nothing where none stands there is the model's choice (log 4). -/
def Obligations.TriggersAreLostOrRetrigger : Prop :=
  ∀ (i : Nat) (s u v : State), Finds s u → v = withoutTrigger i u →
    (u.triggers[i]? = none → exec (.trigger i) s = .next (conclude u))
    ∧ (∀ t : Trigger, u.triggers[i]? = some t → exec (.trigger i) s = .next (conclude (takeTrigger t v)))
    ∧ ∀ (t : Trigger) (profile : Profile), u.triggers[i]? = some t → profile = u.profiles[t.profile] →
      (u.acquisition ≠ .running ∨ t.earlierRun = true →
        exec (.trigger i) s = .next (conclude { v with alarmRequests := u.alarmRequests ++ alarmOf t none }))
      ∧ (∀ n, u.acquisition = .running → t.earlierRun = false → u.openRecord[t.profile] = some n →
        exec (.trigger i) s = .next (conclude
          { v with
            alarmRequests := u.alarmRequests ++ alarmOf t (some n)
            records := changeFirst (fun r => r.number == n)
              (fun r => if r.retriggers.length < 4 then
                  { r with
                    retriggers := r.retriggers ++ [{ source := t.source, time := t.time, extended := profile.extend }]
                    flags := { r.flags with extended := r.flags.extended || profile.extend }
                    parts := r.parts.map fun p =>
                      if profile.extend && p.collecting then { p with remaining := profile.postCount } else p }
                else { r with flags := { r.flags with retrigOverflow := true } }) u.records }))
      ∧ (u.acquisition = .running → t.earlierRun = false → u.openRecord[t.profile] = none →
        (∀ k, profile.mask.getLsbD k.val = true → (capturing k u).isSome = true) →
        exec (.trigger i) s = .next (conclude
          { countUp .captureLostOverlap v with alarmRequests := u.alarmRequests ++ alarmOf t none }))
      ∧ (∀ k : Fin 16, u.acquisition = .running → t.earlierRun = false → u.openRecord[t.profile] = none →
        profile.mask.getLsbD k.val = true → capturing k u = none → 32 ≤ u.records.length →
        (u.settings.policy = .refuseNew ∨ ∀ r ∈ u.records, ¬ (r.state = .closed ∧ r.flags.read = true)) →
        exec (.trigger i) s = .next (conclude
          { countUp .captureLostFull v with alarmRequests := u.alarmRequests ++ alarmOf t none }))

/-- TRIGGER that opens a record, with room in the table (R16, R29, R32 to R37): the new record joins the end of the table
under the first number from the next record number on that no record has, 65535 being followed by 1, one part for each
stream of the mask that is not collecting, in ascending order. Each of those streams hands over the newest pages of its ring
that hold its pre-trigger window and returns the others to the free list; its ring is empty and it collects for the record;
the profile names the record and TRIG_OUT is high for 10 us
(`afterOpening`, `openedPart`, `openingReturns` give every field). The command names a trigger by its place among those on
their way (log 15). -/
def Obligations.TriggersOpenRecords : Prop :=
  ∀ (i : Nat) (t : Trigger) (profile : Profile) (included : List (Fin 16)) (n : Nat) (s u v : State), Finds s u →
    v = withoutTrigger i u → u.triggers[i]? = some t → profile = u.profiles[t.profile] →
    u.acquisition = .running → t.earlierRun = false → u.openRecord[t.profile] = none →
    included = ((List.finRange 16).filter fun k => profile.mask.getLsbD k.val && (capturing k u).isNone) →
    included ≠ [] → u.records.length < 32 → n = freshNumber u →
    ∃ (parts : List StreamPart) (free : List Page) (rings : Vector Ring 16) (sinks : Vector Sink 16),
      exec (.trigger i) s = .next (conclude
        { v with
          records := u.records ++ [{
            number := n, profile := t.profile, state := .opened
            flags := { noFlags with
              preShort := parts.any fun p => decide (p.preCount < profile.preCount)
              isPartial := (List.finRange 16).any fun k => profile.mask.getLsbD k.val && (capturing k u).isSome }
            source := t.source, time := t.time, sample := t.sample, closeTime := none
            requestedPre := profile.preCount, requestedPost := profile.postCount, parts := parts, retriggers := [] }]
          nextRecord := if n < 65535 then n + 1 else 1
          openRecord := put u.openRecord t.profile (some n)
          pins := { u.pins with trigOut := some (microseconds 10) }
          free := free, rings := rings, sinks := sinks
          alarmRequests := u.alarmRequests ++ alarmOf t (some n) })
      ∧ exec (.trigger i) s = .next (conclude
        { afterOpening t v with alarmRequests := u.alarmRequests ++ alarmOf t (some n) })
      ∧ parts = included.map (fun k => openedPart profile k u)
      ∧ free = u.free ++ openingReturns profile u
      ∧ (parts.map fun p => p.stream) = included
      ∧ (∀ p ∈ parts, p.collecting = true ∧ p.remaining = profile.postCount ∧ p.postCount = 0
          ∧ p.format = u.streams[p.stream].format ∧ p.decimation = u.streams[p.stream].decimation
          ∧ p.preCount = min profile.preCount (ringSamples p.format u.rings[p.stream])
          ∧ p.starved = u.rings[p.stream].starved
          ∧ p.firstIndex = u.filters[p.stream].index - BitVec.ofNat 32 p.preCount
          ∧ p.input = (slotOf p.stream u).input ∧ p.polarity = (slotOf p.stream u).polarity
          ∧ p.gain = (slotOf p.stream u).gain
          ∧ p.leadTotal = leadingSkip p.format p.preCount u.rings[p.stream].run.fill
          ∧ p.run = handedRun (pagesTaken p.format p.preCount u.rings[p.stream].run.fill) u.rings[p.stream].run)
      ∧ (RecordNumbersSound u → 1 ≤ n ∧ n ≤ 65535 ∧ n ∉ recordNumbers u
          ∧ ∃ j ≤ u.records.length, n = (u.nextRecord - 1 + j) % 65535 + 1
            ∧ ∀ m < j, (u.nextRecord - 1 + m) % 65535 + 1 ∈ recordNumbers u)
      ∧ ∀ k : Fin 16,
          (k ∈ included → sinks[k] = .capture n ∧ rings[k] = { run := emptyRun, starved := false })
          ∧ (k ∉ included → sinks[k] = u.sinks[k] ∧ rings[k] = u.rings[k])

/-- R31: under DISCARD_OLDEST_READ a full table gives up its first SEALED record with READ, before the opening: its pages
return to the free list, RECORD_DISCARDED rises and its notice is raised. So a TRIGGER that finds the table full and such a
record opens its own record all the same. -/
def Obligations.FullTableDiscardsTheOldestRead : Prop :=
  (∀ (t : Trigger) (s : State) (before after : List CaptureRecord) (r : CaptureRecord), RecordNumbersSound s →
    s.settings.policy = .discardOldestRead → 32 ≤ s.records.length → s.records = before ++ r :: after →
    r.state = .closed → r.flags.read = true → (∀ x ∈ before, ¬ (x.state = .closed ∧ x.flags.read = true)) →
    openWithRoom t s = openRecordFor t (raiseNotice (.recordDiscarded r.number) (countUp .recordDiscarded
      { s with records := before ++ after, free := s.free ++ (recordPages r).map blankPage })))
  ∧ ∀ (i : Nat) (t : Trigger) (before after : List CaptureRecord) (r : CaptureRecord) (s u v w : State), Finds s u →
    v = withoutTrigger i u → u.triggers[i]? = some t → u.acquisition = .running → t.earlierRun = false →
    u.openRecord[t.profile] = none → openingStreams u.profiles[t.profile] u ≠ [] → RecordNumbersSound u →
    u.settings.policy = .discardOldestRead → 32 ≤ u.records.length → u.records = before ++ r :: after →
    r.state = .closed → r.flags.read = true → (∀ x ∈ before, ¬ (x.state = .closed ∧ x.flags.read = true)) →
    w = raiseNotice (.recordDiscarded r.number) (countUp .recordDiscarded
      { v with records := before ++ after, free := v.free ++ (recordPages r).map blankPage }) →
    exec (.trigger i) s = .next (conclude
      { afterOpening t w with alarmRequests := u.alarmRequests ++ alarmOf t (some (freshNumber w)) })

/-- ALARM_REQUEST (R134 to R137): with fewer than 8 entries a PENDING entry joins the end of the list with a fresh id, the
first from the next alarm id on that no entry holds; with 8 it is dropped, ALARM_DROPPED rises and the drop count with it.
The command names a request by its place among those on their way (log 15); that it changes nothing where none stands there
is the model's choice (log 4). -/
def Obligations.AlarmRequestsAreListedOrDropped : Prop :=
  ∀ (i : Nat) (s u v : State), Finds s u → v = { u with alarmRequests := u.alarmRequests.eraseIdx i } →
    (u.alarmRequests[i]? = none → exec (.alarmRequest i) s = .next (conclude u))
    ∧ (∀ r, u.alarmRequests[i]? = some r → u.alarms.length < 8 →
      exec (.alarmRequest i) s = .next (conclude
        { v with
          alarms := u.alarms ++ [{ id := freshAlarmId u, source := r.source, time := r.time, value := r.value,
                                   record := r.record, sendCount := 0, state := .pending }]
          nextAlarm := freshAlarmId u + 1 })
      ∧ ∃ j ≤ u.alarms.length, freshAlarmId u = u.nextAlarm + BitVec.ofNat 8 j ∧ (∀ e ∈ u.alarms, e.id ≠ freshAlarmId u)
        ∧ ∀ m < j, ∃ e ∈ u.alarms, e.id = u.nextAlarm + BitVec.ofNat 8 m)
    ∧ (∀ r, u.alarmRequests[i]? = some r → 8 ≤ u.alarms.length →
      exec (.alarmRequest i) s = .next (conclude
        { countUp .alarmDropped v with dropCount := min 255 (u.dropCount + 1) }))

/-- ACKNOWLEDGEMENT_TIMER_EXPIRY (R139, R140): a WAITING entry sent once or twice is PENDING again; one sent three times is
removed, ALARM_LOST is raised and ALARM_UNDELIVERED rises. That the time left of the timer passes first is log 3, and that
nothing happens for any other id is log 4: both are the model's choice. Acknowledge Alarm (R136, R141,
R211): NO_ALARM when no entry has the id; otherwise the entry is removed, its queued report is withdrawn and gives its
drop count back, and its report in transmission is sent on unheeded. -/
def Obligations.AlarmsEndByAcknowledgementOrExpiry : Prop :=
  (∀ (id : Byte) (s u : State), Finds s u →
    ((∀ e left, findAlarm id u = some e → e.state ≠ .waiting left) →
      exec (.acknowledgementTimerExpiry id) s = .next (conclude u))
    ∧ ∀ (e : AlarmEntry) (left : Nat) (v : State), findAlarm id u = some e → e.state = .waiting left →
      v = elapse left u →
      (e.sendCount < 3 → exec (.acknowledgementTimerExpiry id) s = .next (conclude
        { v with alarms := changeFirst (fun x => x.id == id) (fun x => { x with state := .pending }) v.alarms }))
      ∧ (3 ≤ e.sendCount → exec (.acknowledgementTimerExpiry id) s = .next (conclude (countUp .alarmUndelivered
          (raiseNotice (.alarmLost id e.source e.time e.record)
            { v with alarms := v.alarms.filter fun x => !(x.id == id) })))))
  ∧ ∀ (r : Request) (s u : State) (id : Byte), FindsRequest r s u → r.type = 0x38 → r.payload = [id] →
    ((∀ e ∈ u.alarms, e.id ≠ id) → exec .acknowledgeAlarm s = .next (conclude (refusedWith r .noAlarm 0xFF u)))
    ∧ (∀ e ∈ u.alarms, e.id = id → exec .acknowledgeAlarm s = .next (conclude (replied r []
        { u with
          alarms := u.alarms.filter fun x => !(x.id == id)
          dropCount := min 255 (u.dropCount + ((u.transmit.urgent.filter (reportsAlarm id)).map carriedDrops).sum)
          transmit := { u.transmit with
            urgent := u.transmit.urgent.filter fun f => !reportsAlarm id f
            sending := u.transmit.sending.map fun t => { t with frame := disownReport id t.frame } } })))

/-- R145, R147 to R150: the first rise of a counter offers its FAULT notice under the reserve and sets the mark, REPORTED
when it is queued and UNREPORTED when it is refused, with NOTICE_DROPPED counted; LINK_RESETS offers none and is REPORTED;
NOTICE_DROPPED's own first rise makes its mark UNREPORTED and attempts no notice. Every later rise only counts, up to
65535. -/
def Obligations.FirstOccurrencesAreAnnounced : Prop :=
  ∀ (id : CounterId) (i : Fin 16) (s : State), i = counterIndex id → s.dispatcher.held = none →
    (s.counters[i].value ≠ 0 → countUp id s =
      { s with counters := put s.counters i { s.counters[i] with
          value := if s.counters[i].value < 65535 then s.counters[i].value + 1 else s.counters[i].value } })
    ∧ (s.counters[i].value = 0 → id ≠ .linkResets → id ≠ .noticeDropped →
      (s.transmit.normal.length ≤ 5 → countUp id s =
        { s with
          counters := put s.counters i { value := 1, mark := .reported }
          transmit := { s.transmit with
            normal := s.transmit.normal ++ [noticeFrame (.fault id s.clock.timebase)] } })
      ∧ (6 ≤ s.transmit.normal.length → countUp id s =
        { s with
          counters := put (put s.counters i { value := 1, mark := .unreported }) 10
            { value := if s.counters[10].value < 65535 then s.counters[10].value + 1 else s.counters[10].value
              mark := if s.counters[10].value = 0 then .unreported else s.counters[10].mark } }))
    ∧ (s.counters[i].value = 0 → id = .linkResets → countUp id s =
        { s with counters := put s.counters i { value := 1, mark := .reported } })
    ∧ (s.counters[i].value = 0 → id = .noticeDropped → countUp id s =
        { s with counters := put s.counters i { value := 1, mark := .unreported } })

/-! ## Requests -/

/-- R189: Identify is answered with the 13 bytes that R189 fixes for the part, in every state, and changes nothing. -/
def Obligations.IdentifyGivesThePartsCodes : Prop :=
  ∀ (r : Request) (s u : State), FindsRequest r s u → r.type = 0x01 → r.payload = [] →
    exec .identify s = .next (conclude (replied r
      [0x5C, 0x0A, 0x16, 0x04, 0x01, 8, 16, 4, 32, 192, 32, 8, 8] u))

/-- Get Status, Read Counters without the clear, List Records and Read Configuration (R190, R193, R201, R206): the values
as they stand are the reply, in every state, and nothing else changes. The page counts add up to 192. The inbound fill is
the number of requests that Get Status left behind it at its take (`behind`; the model's reading, log 25), at most 3. The
bytes of every item of Read Configuration, which are those of the request that replaces it, are spelled field by field and
code by code: a slot (R194), a stream (R195), a coefficient set (R196), a profile (R197), a watch (R198), the external trigger
(R199), the settings (R200), the states of a watch and of the external trigger (R201), and that of acquisition (R190). -/
def Obligations.ReportsGiveTheValuesStanding : Prop :=
  (∀ (r : Request) (s u : State) (ring record : Nat), FindsRequest r s u → r.type = 0x02 → r.payload = [] →
    ring = (u.rings.toList.map fun x => x.run.pages.length).sum →
    record = (u.records.map fun x => (x.parts.map fun p => p.run.pages.length).sum).sum →
    exec .getStatus s = .next (conclude (replied r
        ([acquisitionByte u.acquisition, byteOf u.free.length, byteOf ring, byteOf record, byteOf u.records.length,
          byteOf (u.records.filter fun x => decide (x.state = .opened)).length, byteOf u.alarms.length,
          byteOf u.dispatcher.behind]
          ++ lowFirst 2 (if u.readout.state = .idle then 0 else u.readout.record) ++ timeBytes u.clock.timebase) u))
      ∧ (PagesConserved u → u.free.length + ring + record = 192) ∧ (QueuesBounded u → u.dispatcher.behind ≤ 3))
  ∧ (∀ (u : State) (r : Request) (rest : List Request), u.dispatcher.state = .free → u.inbound = r :: rest →
      u.transmit.normal.length < 8 → takeRequest u =
        { u with
          inbound := rest
          dispatcher := { u.dispatcher with state := .executing r, behind := rest.length } })
  ∧ (∀ (r : Request) (s u : State), FindsRequest r s u → r.type = 0x03 → r.payload = [0] →
    exec .readCounters s = .next (conclude (replied r
      ((List.finRange 16).flatMap (fun i => lowFirst 2 u.counters[i].value)
        ++ lowFirst 2 ((List.finRange 16).map fun i => if u.counters[i].mark = .unreported then 2 ^ i.val else 0).sum) u)))
  ∧ (∀ (r : Request) (s u : State), FindsRequest r s u → r.type = 0x30 → r.payload = [] →
    exec .listRecords s = .next (conclude (replied r
      (byteOf u.records.length :: u.records.flatMap fun x =>
        [byteOf x.number, byteOf (x.number / 256), byteOf x.profile.val, recordStateByte x.state, flagsByte x.flags,
          byteOf (imageLength x), byteOf (imageLength x / 256)]) u)))
  ∧ (∀ (r : Request) (s u : State) (item number : Byte) (data : List Byte), FindsRequest r s u → r.type = 0x17 →
    r.payload = [item, number] →
    ((item = 0 ∧ number = 0 ∧ data = byteOf u.scan.length :: u.scan.flatMap slotBytes)
      ∨ (∃ k : Fin 16, item = 1 ∧ number = byteOf k.val ∧ data = streamBytes u.streams[k])
      ∨ (∃ k : Fin 4, item = 2 ∧ number = byteOf k.val ∧ data = coefficientBytes u.coefficients[k])
      ∨ (∃ p : Fin 4, item = 3 ∧ number = byteOf p.val ∧ data = profileBytes u.profiles[p])
      ∨ (∃ w : Fin 8, item = 4 ∧ number = byteOf w.val ∧ data = watchBytes u.watches[w].definition
          ++ [watchStateByte u.watches[w].state] ++ lowFirst 2 (match u.watches[w].state with
            | .qualifying => u.watches[w].qualifyCount
            | .holdoff => u.watches[w].holdoffCount
            | _ => 0))
      ∨ (item = 5 ∧ number = 0 ∧ data = externalBytes u.external.definition ++ [externalStateByte u.external.state])
      ∨ (item = 6 ∧ number = 0 ∧ data = settingsBytes u.settings)) →
    exec .readConfiguration s = .next (conclude (replied r (item :: number :: data) u)))
  ∧ ((∀ n : Nat, lowFirst 2 n = [byteOf n, byteOf (n / 256)])
    ∧ (∀ x : Slot, slotBytes x = [byteOf x.input.val, match x.polarity with | .normal => 0x00 | .inverted => 0x01,
        byteOf x.gain.val, byteOf x.settle.val])
    ∧ (∀ x : StreamSettings, streamBytes x = [if x.enabled then 0x01 else 0x00,
        match x.filter with | .bypass => 0xFF | .coefficients set => byteOf set.val,
        byteOf x.decimation, byteOf x.history, match x.format with | .full => 0x00 | .packed => 0x01])
    ∧ (∀ x : CoefficientSet, coefficientBytes x = byteOf x.coefficients.length :: byteOf x.shift ::
        x.coefficients.flatMap fun c => [byteOf c.toNat, byteOf (c.toNat / 256)])
    ∧ (∀ x : Profile, profileBytes x = [byteOf x.mask.toNat, byteOf (x.mask.toNat / 256), byteOf x.preCount,
        byteOf (x.preCount / 256), byteOf x.postCount, byteOf (x.postCount / 256), if x.extend then 0x01 else 0x00])
    ∧ (∀ d : WatchDefinition, watchBytes d = [if d.enabled then 0x01 else 0x00, byteOf d.stream.val,
        match d.kind with | .above => 0x00 | .below => 0x01 | .outside => 0x02 | .step => 0x03,
        byteOf d.low.toNat, byteOf (d.low.toNat / 256), byteOf d.high.toNat, byteOf (d.high.toNat / 256),
        byteOf d.hysteresis, byteOf (d.hysteresis / 256), byteOf d.qualify, byteOf d.holdoff, byteOf (d.holdoff / 256),
        match d.profile with | some p => byteOf p.val | none => 0xFF,
        if d.alarm then 0x01 else 0x00, if d.oneShot then 0x01 else 0x00])
    ∧ (∀ d : ExternalDefinition, externalBytes d = [if d.enabled then 0x01 else 0x00,
        match d.edge with | .rising => 0x00 | .falling => 0x01,
        match d.profile with | some p => byteOf p.val | none => 0xFF,
        if d.alarm then 0x01 else 0x00, byteOf d.holdoff, byteOf (d.holdoff / 256), byteOf (d.holdoff / 256 ^ 2),
        byteOf (d.holdoff / 256 ^ 3)])
    ∧ (∀ x : AcquisitionSettings, settingsBytes x = [
        match x.source with | .paced => 0x00 | .external => 0x01 | .host => 0x02,
        byteOf x.period, byteOf (x.period / 256), byteOf (x.period / 256 ^ 2), byteOf (x.period / 256 ^ 3),
        match x.policy with | .refuseNew => 0x00 | .discardOldestRead => 0x01])
    ∧ [AcquisitionState.idle, .running, .draining].map acquisitionByte = [0x00, 0x01, 0x02]
    ∧ [WatchState.disarmed, .armed, .qualifying, .holdoff, .rearmWait].map watchStateByte = [0x00, 0x01, 0x02, 0x03, 0x04]
    ∧ ∀ left : Nat, [ExternalState.disarmed, .armed, .holdoff left].map externalStateByte = [0x00, 0x01, 0x02])

/-- Set Time replaces the Timebase, whatever its value (R105, R192), and the part of a microsecond that has passed stays
(the model's reading, log 5); Read Counters with the clear flag gives the values and
clears every counter and mark (R151, R193); Restart queues its reply, which an idle line begins at once, and leaves the
Dispatcher RESTARTING (R173, R191). -/
def Obligations.TimeCountersAndRestart : Prop :=
  (∀ (r : Request) (s u : State) (t : Time), FindsRequest r s u → r.type = 0x04 → r.payload = timeBytes t →
    exec .setTime s = .next (conclude (replied r [] { u with clock := { u.clock with timebase := t } })))
  ∧ (∀ (r : Request) (s u : State), FindsRequest r s u → r.type = 0x03 → r.payload = [1] →
    exec .readCountersClear s = .next (conclude (replied r
      ((List.finRange 16).flatMap (fun i => lowFirst 2 u.counters[i].value)
        ++ lowFirst 2 ((List.finRange 16).map fun i => if u.counters[i].mark = .unreported then 2 ^ i.val else 0).sum)
      { u with counters := Vector.replicate 16 { value := 0, mark := .clear } })))
  ∧ ∀ (r : Request) (s u : State), FindsRequest r s u → r.type = 0x05 → r.payload = [] →
    exec .restart s = .next (conclude (withReply
      { kind := .restartReply, type := 0x85, tag := r.tag, payload := [0x00] }
      { u.dispatcher with state := .restarting } u))

/-- Configure Scan, Stream, Profile and Acquisition (R22, R90, R107, R121, R194, R195, R197, R200): in IDLE the item is
replaced whole and nothing else changes; otherwise the request is refused with WRONG_STATE. Load Coefficients (R109, R110,
R196): the set is replaced, but while acquiring a set that an enabled stream names is refused with SET_IN_USE and its
number. (ReportsGiveTheValuesStanding spells slotBytes, streamBytes, coefficientBytes, profileBytes and settingsBytes.) -/
def Obligations.ConfigurationIsReplacedWhole : Prop :=
  ((∀ (r : Request) (s u : State) (slots : List Slot), FindsRequest r s u → r.type = 0x10 → slots ≠ [] →
    slots.length ≤ 16 → r.payload = byteOf slots.length :: slots.flatMap slotBytes →
    (u.acquisition = .idle → exec .configureScan s = .next (conclude (replied r [] { u with scan := slots })))
    ∧ (u.acquisition ≠ .idle → exec .configureScan s = .next (conclude (refusedWith r .wrongState 0xFF u))))
  ∧ (∀ (r : Request) (s u : State) (k : Fin 16) (x : StreamSettings), FindsRequest r s u → r.type = 0x11 →
    1 ≤ x.decimation → x.decimation ≤ 16 → x.history ≤ 16 → r.payload = byteOf k.val :: streamBytes x →
    (u.acquisition = .idle → exec .configureStream s = .next (conclude (replied r []
      { u with streams := put u.streams k x })))
    ∧ (u.acquisition ≠ .idle → exec .configureStream s = .next (conclude (refusedWith r .wrongState 0xFF u))))
  ∧ (∀ (r : Request) (s u : State) (p : Fin 4) (x : Profile), FindsRequest r s u → r.type = 0x13 →
    x.preCount ≤ 65535 → 1 ≤ x.postCount → x.postCount ≤ 65535 → r.payload = byteOf p.val :: profileBytes x →
    (u.acquisition = .idle → exec .configureProfile s = .next (conclude (replied r []
      { u with profiles := put u.profiles p x })))
    ∧ (u.acquisition ≠ .idle → exec .configureProfile s = .next (conclude (refusedWith r .wrongState 0xFF u))))
  ∧ ∀ (r : Request) (s u : State) (x : AcquisitionSettings), FindsRequest r s u → r.type = 0x16 → 10 ≤ x.period →
    x.period ≤ 1000000 → r.payload = settingsBytes x →
    (u.acquisition = .idle → exec .configureAcquisition s = .next (conclude (replied r [] { u with settings := x })))
    ∧ (u.acquisition ≠ .idle → exec .configureAcquisition s = .next (conclude (refusedWith r .wrongState 0xFF u))))
  ∧ ∀ (r : Request) (s u : State) (set : Fin 4) (x : CoefficientSet), FindsRequest r s u → r.type = 0x12 →
    x.coefficients.length ≤ 32 → x.shift ≤ 15 → r.payload = byteOf set.val :: coefficientBytes x →
    (u.acquisition = .idle ∨ (∀ k : Fin 16, u.streams[k].enabled = true → u.streams[k].filter ≠ .coefficients set) →
      exec .loadCoefficients s = .next (conclude (replied r [] { u with coefficients := put u.coefficients set x })))
    ∧ (∀ k : Fin 16, u.acquisition ≠ .idle → u.streams[k].enabled = true → u.streams[k].filter = .coefficients set →
      exec .loadCoefficients s = .next (conclude (refusedWith r .setInUse (byteOf set.val) u)))

/-- Configure Watch and Configure External Trigger (R82, R88, R198, R199): the definition is replaced, with fresh working
values, in state ARMED when RUNNING and enabled and otherwise DISARMED, and the new state is the reply. While RUNNING an
enabled definition is refused with NOT_CONFIGURED when its stream is not enabled or its profile not usable.
(ReportsGiveTheValuesStanding spells watchBytes and externalBytes.) -/
def Obligations.WatchAndExternalEdits : Prop :=
  (∀ (r : Request) (s u : State) (w : Fin 8) (d : WatchDefinition), FindsRequest r s u → r.type = 0x14 →
    d.hysteresis ≤ 32767 → 1 ≤ d.qualify → d.qualify ≤ 255 → d.holdoff ≤ 65535 →
    (d.kind = .outside → d.low.toInt ≤ d.high.toInt) → (d.kind = .step → 0 ≤ d.high.toInt) →
    r.payload = byteOf w.val :: watchBytes d →
    (u.acquisition ≠ .running ∨ d.enabled = false → exec .configureWatch s = .next (conclude (replied r [0x00]
      { u with
        watches := put u.watches w
          { definition := d, state := .disarmed, qualifyCount := 0, holdoffCount := 0, previous := none,
            firing := none } })))
    ∧ (u.acquisition = .running → d.enabled = true → WatchSound d u →
      exec .configureWatch s = .next (conclude (replied r [0x01]
        { u with
          watches := put u.watches w
            { definition := d, state := .armed, qualifyCount := 0, holdoffCount := 0, previous := none,
              firing := none } })))
    ∧ (u.acquisition = .running → d.enabled = true → u.streams[d.stream].enabled = false →
      exec .configureWatch s = .next (conclude (refusedWith r .notConfigured (byteOf d.stream.val) u)))
    ∧ (∀ p, u.acquisition = .running → d.enabled = true → u.streams[d.stream].enabled = true → d.profile = some p →
      ¬ ProfileUsable p u →
      exec .configureWatch s = .next (conclude (refusedWith r .notConfigured (byteOf (0x30 + p.val)) u))))
  ∧ ∀ (r : Request) (s u : State) (d : ExternalDefinition), FindsRequest r s u → r.type = 0x15 → d.holdoff ≤ 1000000 →
    r.payload = externalBytes d →
    (u.acquisition ≠ .running ∨ d.enabled = false → exec .configureExternalTrigger s = .next (conclude
      (replied r [0x00] { u with external := { definition := d, state := .disarmed } })))
    ∧ (u.acquisition = .running → d.enabled = true → ExternalSound d u →
      exec .configureExternalTrigger s = .next (conclude
        (replied r [0x01] { u with external := { definition := d, state := .armed } })))
    ∧ (∀ p, u.acquisition = .running → d.enabled = true → d.profile = some p → ¬ ProfileUsable p u →
      exec .configureExternalTrigger s = .next (conclude (refusedWith r .notConfigured (byteOf (0x30 + p.val)) u)))

/-- A type that is no request type is refused with BAD_TYPE, a length the type does not accept with BAD_LENGTH, a field out
of range with BAD_PARAM and the index of the first such field (R185, R186), for every request that has fields with a
range; an inconsistent watch definition gives index 6 (R198). With no request in execution a request row changes nothing
(the model's choice, log 11). -/
def Obligations.RequestsOfTheWrongFormAreRefused : Prop :=
  (∀ (r : Request) (s u : State), FindsRequest r s u →
    r.type ∉ ([0x01, 0x02, 0x03, 0x04, 0x05, 0x10, 0x11, 0x12, 0x13, 0x14, 0x15, 0x16, 0x17, 0x20, 0x21, 0x22, 0x23, 0x30,
      0x31, 0x32, 0x33, 0x34, 0x38] : List Byte) →
    exec .unknownRequest s = .next (conclude (refusedWith r .badType r.type u)))
  ∧ (∀ (c : Instr) (type required : Byte) (r : Request) (s u : State),
    (c, type, required) ∈ ([(.identify, 0x01, 0), (.getStatus, 0x02, 0), (.readCounters, 0x03, 1),
      (.readCountersClear, 0x03, 1), (.setTime, 0x04, 6), (.restart, 0x05, 0), (.configureStream, 0x11, 6),
      (.configureProfile, 0x13, 8), (.configureWatch, 0x14, 16), (.configureExternalTrigger, 0x15, 8),
      (.configureAcquisition, 0x16, 6), (.readConfiguration, 0x17, 2), (.startAcquisition, 0x20, 0),
      (.stopGraceful, 0x21, 1), (.stopImmediate, 0x21, 1), (.convertOnce, 0x22, 0), (.forceCapture, 0x23, 1),
      (.listRecords, 0x30, 0), (.readRecord, 0x31, 4), (.cancelReadout, 0x32, 0), (.releaseRecord, 0x33, 2),
      (.releaseAllSealed, 0x34, 0), (.acknowledgeAlarm, 0x38, 1)] : List (Instr × Byte × Byte)) →
    FindsRequest r s u → r.type = type → r.payload.length ≠ required.toNat →
    exec c s = .next (conclude (refusedWith r .badLength required u)))
  ∧ (∀ (r : Request) (s u : State), FindsRequest r s u →
    (r.type = 0x10 → (∀ n, r.payload.head? = some n → r.payload.length ≠ 1 + 4 * n.toNat) →
      exec .configureScan s = .next (conclude (refusedWith r .badLength 0xFF u)))
    ∧ (r.type = 0x12 → (∀ n, r.payload[1]? = some n → r.payload.length ≠ 3 + 2 * n.toNat) →
      exec .loadCoefficients s = .next (conclude (refusedWith r .badLength 0xFF u))))
  ∧ (∀ (r : Request) (s u : State) (k enabled filter decimation history format : Byte) (index : Byte),
    FindsRequest r s u → r.type = 0x11 → r.payload = [k, enabled, filter, decimation, history, format] →
    index = (if 16 ≤ k.toNat then 1 else if 2 ≤ enabled.toNat then 2
      else if 4 ≤ filter.toNat ∧ filter ≠ 0xFF then 3 else if decimation = 0 ∨ 17 ≤ decimation.toNat then 4
      else if 17 ≤ history.toNat then 5 else if 2 ≤ format.toNat then 6 else 0) →
    index ≠ 0 → exec .configureStream s = .next (conclude (refusedWith r .badParam index u)))
  ∧ (∀ (c : Instr) (type bound b : Byte) (r : Request) (s u : State),
    (c, type, bound) ∈ ([(.readCounters, 0x03, 2), (.readCountersClear, 0x03, 2), (.stopGraceful, 0x21, 2),
      (.stopImmediate, 0x21, 2), (.forceCapture, 0x23, 4)] : List (Instr × Byte × Byte)) →
    FindsRequest r s u → r.type = type → r.payload = [b] → bound.toNat ≤ b.toNat →
    exec c s = .next (conclude (refusedWith r .badParam 1 u)))
  ∧ (∀ (r : Request) (s u : State) (b offset₀ offset₁ : Byte), FindsRequest r s u →
    (r.type = 0x33 → r.payload = [0, 0] → exec .releaseRecord s = .next (conclude (refusedWith r .badParam 1 u)))
    ∧ (r.type = 0x31 → r.payload = [0, 0, offset₀, offset₁] →
      exec .readRecord s = .next (conclude (refusedWith r .badParam 1 u)))
    ∧ (r.type = 0x17 → ∀ item : Byte, r.payload = [item, b] →
      (7 ≤ item.toNat → exec .readConfiguration s = .next (conclude (refusedWith r .badParam 1 u)))
      ∧ ([1, 16, 4, 4, 8, 1, 1].getD item.toNat 256 ≤ b.toNat → item.toNat < 7 →
        exec .readConfiguration s = .next (conclude (refusedWith r .badParam 2 u)))))
  ∧ (∀ (r : Request) (s u : State) (n : Byte) (fields : List Byte), FindsRequest r s u → r.type = 0x10 →
    r.payload = n :: fields → fields.length = 4 * n.toNat →
    (n = 0 ∨ 17 ≤ n.toNat → exec .configureScan s = .next (conclude (refusedWith r .badParam 1 u)))
    ∧ ∀ j < fields.length, n.toNat ≤ 16 → [8, 2, 4, 4].getD (j % 4) 0 ≤ (fields.getD j 0).toNat →
      (∀ m < j, (fields.getD m 0).toNat < [8, 2, 4, 4].getD (m % 4) 0) →
      exec .configureScan s = .next (conclude (refusedWith r .badParam (byteOf (2 + j)) u)))
  ∧ (∀ (r : Request) (s u : State) (set taps shift : Byte) (rest : List Byte) (index : Byte), FindsRequest r s u →
    r.type = 0x12 → r.payload = set :: taps :: shift :: rest → rest.length = 2 * taps.toNat →
    index = (if 4 ≤ set.toNat then 1 else if 33 ≤ taps.toNat then 2 else if 16 ≤ shift.toNat then 3 else 0) →
    index ≠ 0 → exec .loadCoefficients s = .next (conclude (refusedWith r .badParam index u)))
  ∧ (∀ (r : Request) (s u : State) (profile m₀ m₁ p₀ p₁ q₀ q₁ extend : Byte) (index : Byte), FindsRequest r s u →
    r.type = 0x13 → r.payload = [profile, m₀, m₁, p₀, p₁, q₀, q₁, extend] →
    index = (if 4 ≤ profile.toNat then 1 else if q₀ = 0 ∧ q₁ = 0 then 4 else if 2 ≤ extend.toNat then 5 else 0) →
    index ≠ 0 → exec .configureProfile s = .next (conclude (refusedWith r .badParam index u)))
  ∧ (∀ (r : Request) (s u : State) (watch enabled stream kind l₀ l₁ h₀ h₁ y₀ y₁ q d₀ d₁ profile alarm oneShot : Byte)
      (low high : Sample) (index : Byte), FindsRequest r s u →
    r.type = 0x14 →
    r.payload = [watch, enabled, stream, kind, l₀, l₁, h₀, h₁, y₀, y₁, q, d₀, d₁, profile, alarm, oneShot] →
    low = BitVec.ofNat 16 (l₀.toNat + 256 * l₁.toNat) → high = BitVec.ofNat 16 (h₀.toNat + 256 * h₁.toNat) →
    index = (if 8 ≤ watch.toNat then 1 else if 2 ≤ enabled.toNat then 2 else if 16 ≤ stream.toNat then 3
      else if 4 ≤ kind.toNat then 4 else if 128 ≤ y₁.toNat then 7 else if q = 0 then 8
      else if 4 ≤ profile.toNat ∧ profile ≠ 0xFF then 10 else if 2 ≤ alarm.toNat then 11
      else if 2 ≤ oneShot.toNat then 12
      else if (kind = 2 ∧ high.toInt < low.toInt) ∨ (kind = 3 ∧ high.toInt < 0) then 6 else 0) →
    index ≠ 0 → exec .configureWatch s = .next (conclude (refusedWith r .badParam index u)))
  ∧ (∀ (r : Request) (s u : State) (enabled edge profile alarm h₀ h₁ h₂ h₃ : Byte) (index : Byte), FindsRequest r s u →
    r.type = 0x15 → r.payload = [enabled, edge, profile, alarm, h₀, h₁, h₂, h₃] →
    index = (if 2 ≤ enabled.toNat then 1 else if 2 ≤ edge.toNat then 2
      else if 4 ≤ profile.toNat ∧ profile ≠ 0xFF then 3 else if 2 ≤ alarm.toNat then 4
      else if 1000000 < h₀.toNat + 256 * h₁.toNat + 65536 * h₂.toNat + 16777216 * h₃.toNat then 5 else 0) →
    index ≠ 0 → exec .configureExternalTrigger s = .next (conclude (refusedWith r .badParam index u)))
  ∧ (∀ (r : Request) (s u : State) (source p₀ p₁ p₂ p₃ policy : Byte) (period : Nat) (index : Byte),
    FindsRequest r s u → r.type = 0x16 → r.payload = [source, p₀, p₁, p₂, p₃, policy] →
    period = p₀.toNat + 256 * p₁.toNat + 65536 * p₂.toNat + 16777216 * p₃.toNat →
    index = (if 3 ≤ source.toNat then 1 else if period < 10 ∨ 1000000 < period then 2
      else if 2 ≤ policy.toNat then 3 else 0) →
    index ≠ 0 → exec .configureAcquisition s = .next (conclude (refusedWith r .badParam index u)))
  ∧ ∀ (c : Instr) (s u : State), Finds s u → (∀ r, u.dispatcher.state ≠ .executing r) →
    c ∈ ([.identify, .getStatus, .readCounters, .readCountersClear, .setTime, .restart, .configureScan, .configureStream,
      .loadCoefficients, .configureProfile, .configureWatch, .configureExternalTrigger, .configureAcquisition,
      .readConfiguration, .startAcquisition, .stopGraceful, .stopImmediate, .convertOnce, .forceCapture, .listRecords,
      .readRecord, .cancelReadout, .releaseRecord, .releaseAllSealed, .acknowledgeAlarm, .unknownRequest] : List Instr) →
    exec c s = .next (conclude u)

/-! ## Acquisition -/

/-- Start Acquisition that succeeds (R20, R80, R88, R112, R123 to R125, R202): the enabled filters are primed, every ring
is empty, the sinks are set, the enabled watches and external trigger are ARMED, acquisition is RUNNING, and under PACED
the first round and the pacer begin; the reply carries the Timebase value. (ConversionsHandOverTheirSample spells the slot
times of R91.) -/
def Obligations.StartsBeginARun : Prop :=
  ∀ (r : Request) (s u : State) (k : Fin 16), FindsRequest r s u → r.type = 0x20 → r.payload = [] →
    u.acquisition = .idle → StreamsChosen u → SourcesSound u → enabledHistory u ≤ 128 → PaceSound u →
    u.streams[k].enabled = true → (∀ j : Fin 16, j < k → u.streams[j].enabled = false) →
    ∃ (filters : Vector FilterState 16) (sinks : Vector Sink 16),
      exec .startAcquisition s = .next (conclude (replied r (timeBytes u.clock.timebase)
        { u with
          filters := filters
          free := u.free ++ ringPages u
          rings := Vector.replicate 16 emptyRing
          sinks := sinks
          watches := u.watches.map fun w => if w.definition.enabled then
              { definition := w.definition, state := .armed, qualifyCount := 0, holdoffCount := 0, previous := none,
                firing := none }
            else w
          external := { u.external with state := if u.external.definition.enabled then .armed else .disarmed }
          triggers := u.triggers.map fun t => { t with earlierRun := true }
          acquisition := .running
          round := if u.settings.source = .paced then
              .inRound u.clock.timebase k (microseconds (slotMicroseconds (slotOf k u))) else u.round
          pacer := if u.settings.source = .paced then
              .running (microseconds u.settings.period) (microseconds u.settings.period) else u.pacer }))
      ∧ (∀ j : Fin 16, filters[j] = if u.streams[j].enabled = true then
            { delayLine := List.replicate (match u.streams[j].filter with
                | .bypass => 0
                | .coefficients set => u.coefficients[set].coefficients.length) 0
              count := 0, index := 0, due := none }
          else u.filters[j])
      ∧ ∀ j : Fin 16, sinks[j] = if u.streams[j].enabled = true ∧ u.streams[j].history ≠ 0 then .ring else .none

/-- Start Acquisition that is refused, by the first check that fails (R123, R124). (ConversionsHandOverTheirSample spells the
round time of R91.) -/
def Obligations.StartsAreRefusedInOrder : Prop :=
  ∀ (r : Request) (s u : State), FindsRequest r s u → r.type = 0x20 → r.payload = [] →
    (u.acquisition ≠ .idle → exec .startAcquisition s = .next (conclude (refusedWith r .wrongState 0xFF u)))
    ∧ (u.acquisition = .idle → ¬ StreamsChosen u →
      exec .startAcquisition s = .next (conclude (refusedWith r .notConfigured 0xFF u)))
    ∧ (∀ k : Fin 16, u.acquisition = .idle → StreamsChosen u → (∀ j, j < k → StreamSlotted j u) → ¬ StreamSlotted k u →
      exec .startAcquisition s = .next (conclude (refusedWith r .notConfigured (byteOf k.val) u)))
    ∧ (∀ k : Fin 16, u.acquisition = .idle → StreamsChosen u → (∀ j, StreamSlotted j u) →
      (∀ j, j < k → StreamLoaded j u) → ¬ StreamLoaded k u →
      exec .startAcquisition s = .next (conclude (refusedWith r .notConfigured (byteOf k.val) u)))
    ∧ (∀ w : Fin 8, u.acquisition = .idle → StreamsChosen u → (∀ j, StreamSlotted j u ∧ StreamLoaded j u) →
      (∀ v : Fin 8, v < w → WatchSound u.watches[v].definition u) → ¬ WatchSound u.watches[w].definition u →
      exec .startAcquisition s = .next (conclude (refusedWith r .notConfigured (byteOf (0x20 + w.val)) u)))
    ∧ (u.acquisition = .idle → StreamsChosen u → (∀ j, StreamSlotted j u ∧ StreamLoaded j u) →
      (∀ w : Fin 8, WatchSound u.watches[w].definition u) → ¬ ExternalSound u.external.definition u →
      exec .startAcquisition s = .next (conclude (refusedWith r .notConfigured 0x28 u)))
    ∧ (u.acquisition = .idle → StreamsChosen u → SourcesSound u → 128 < enabledHistory u →
      exec .startAcquisition s = .next (conclude (refusedWith r .poolOvercommit (byteOf (enabledHistory u - 128)) u)))
    ∧ (u.acquisition = .idle → StreamsChosen u → SourcesSound u → enabledHistory u ≤ 128 → ¬ PaceSound u →
      exec .startAcquisition s = .next (conclude (refusedWith r .paceTooFast (byteOf (roundMicroseconds u + 2)) u)))

/-- Stop Acquisition (R81, R119, R126, R127, R129, R130, R203): in IDLE nothing changes; GRACEFUL changes nothing in
DRAINING, and while RUNNING drains when a record is OPEN and otherwise reaches IDLE with reason DRAINED; IMMEDIATE with no
record OPEN reaches IDLE with reason STOPPED. The notice follows the reply. A Stop that reaches IDLE finds the outputs that
were due delivered (`z`): one of them may open a record, which a GRACEFUL Stop then drains, or end a drain, which leaves an
IMMEDIATE one nothing to do. That they are delivered before the Stop is carried out, their notices ahead of its reply and in
ascending stream number, is the model's choice (log 14); each is an event of its own (log 12), and its triggers are taken in
the order sent (log 15). (ImmediateStopsSealEveryOpenRecord is IMMEDIATE with records OPEN.) -/
def Obligations.StopsDrainOrReachIdle : Prop :=
  ∀ (r : Request) (s u z : State), FindsRequest r s u → r.type = 0x21 → z = outputsTaken u →
    (r.payload = [0] →
      (u.acquisition = .idle → exec .stopGraceful s = .next (conclude (replied r [0x00] u)))
      ∧ (u.acquisition = .draining → exec .stopGraceful s = .next (conclude (replied r [0x02] u)))
      ∧ (u.acquisition = .running → anyOpen u = true →
        exec .stopGraceful s = .next (conclude (replied r [0x02] { disarmed u with acquisition := .draining })))
      ∧ (u.acquisition = .running → anyOpen u = false → anyOpen z = true →
        exec .stopGraceful s = .next (conclude (replied r [0x02] { disarmed z with acquisition := .draining })))
      ∧ (u.acquisition = .running → anyOpen u = false → anyOpen z = false →
        exec .stopGraceful s = .next (conclude (offered
          [.acquisitionIdle .drained z.clock.timebase z.records.length] (replied r [0x00] (quieted z))))))
    ∧ (r.payload = [1] →
      (u.acquisition = .idle → exec .stopImmediate s = .next (conclude (replied r [0x00] u)))
      ∧ (u.acquisition ≠ .idle → z.acquisition = .idle →
        exec .stopImmediate s = .next (conclude (replied r [0x00] z)))
      ∧ (u.acquisition ≠ .idle → z.acquisition ≠ .idle → anyOpen z = false →
        exec .stopImmediate s = .next (conclude (offered
          [.acquisitionIdle .stopped z.clock.timebase z.records.length] (replied r [0x00] (quieted z))))))
    ∧ ((∀ k : Fin 16, u.filters[k].due = none) → z = u)

/-- Stop Acquisition IMMEDIATE with records OPEN (R44, R119, R129, R130): each OPEN record is SEALED at the Stop, with STOPPED
when a stream was collecting; CAPTURE_DONE of each in table order and ACQUISITION_IDLE follow the reply. The outputs that were
due have been delivered (`z`); that this is before the Stop is carried out, in ascending stream number, is the model's choice
(log 14); each is an event of its own (log 12), and its triggers are taken in the order sent (log 15). -/
def Obligations.ImmediateStopsSealEveryOpenRecord : Prop :=
  ∀ (r : Request) (s u z : State) (sealed : CaptureRecord → CaptureRecord), FindsRequest r s u → r.type = 0x21 →
    r.payload = [1] → u.acquisition ≠ .idle → z = outputsTaken u → z.acquisition ≠ .idle → RecordNumbersSound z →
    (∀ x ∈ z.records, PartsDistinct x) →
    sealed = (fun x =>
      { x with
        state := .closed
        closeTime := some z.clock.timebase
        flags := { x.flags with stopped := x.flags.stopped || (x.parts.any fun p => p.collecting) }
        parts := x.parts.map fun p =>
          if p.collecting then { p with run := encodePending p.run, collecting := false, remaining := 0 } else p }) →
    ∃ (free : List Page) (openRecord : Vector (Option Nat) 4),
      exec .stopImmediate s = .next (conclude (offered
        (((z.records.filter fun x => decide (x.state = .opened)).map fun x =>
            Notice.captureDone x.number (sealed x).flags (imageLength (sealed x)))
          ++ [.acquisitionIdle .stopped z.clock.timebase z.records.length])
        (replied r [0x00]
          { quieted z with
            free := free
            openRecord := openRecord
            records := z.records.map fun x => if x.state = .opened then sealed x else x })))
      ∧ free.Perm (z.free ++ ringPages z)
      ∧ ∀ p : Fin 4, openRecord[p]
          = if ∃ x ∈ z.records, x.state = .opened ∧ x.profile = p then none else z.openRecord[p]

/-- Convert Once (R95, R100, R204): WRONG_STATE in IDLE or when the source is not HOST, ROUND_BUSY during a round, and
otherwise a round begins and its start time is the reply. -/
def Obligations.ConvertOnceBeginsARound : Prop :=
  ∀ (r : Request) (s u : State), FindsRequest r s u → r.type = 0x22 → r.payload = [] →
    (u.acquisition = .idle ∨ u.settings.source ≠ .host →
      exec .convertOnce s = .next (conclude (refusedWith r .wrongState 0xFF u)))
    ∧ (u.acquisition ≠ .idle → u.settings.source = .host → u.round ≠ .noRound →
      exec .convertOnce s = .next (conclude (refusedWith r .roundBusy 0xFF u)))
    ∧ (∀ k, u.acquisition ≠ .idle → u.settings.source = .host → u.round = .noRound →
      (convertedStreams u).head? = some k →
      exec .convertOnce s = .next (conclude (replied r (timeBytes u.clock.timebase)
        { u with round := .inRound u.clock.timebase k (microseconds (slotMicroseconds (slotOf k u))) })))

/-- Force Capture (R89, R205): WRONG_STATE outside RUNNING, NOT_CONFIGURED for a profile that is not usable; otherwise the
outcome of its FORCE trigger is the reply: OPENED, RETRIGGERED or LOST. The first occurrence of a LOST trigger and the
record that DISCARD_OLDEST_READ gives up are announced after the reply (R31, R147, R188). -/
def Obligations.ForceCapturesAnswerTheirOutcome : Prop :=
  ∀ (r : Request) (s u : State) (p : Fin 4) (x : Profile) (trigger : Trigger), FindsRequest r s u → r.type = 0x23 →
    r.payload = [byteOf p.val] → x = u.profiles[p] →
    trigger = { profile := p, source := .force, time := u.clock.timebase, sample := none, alarm := false,
                earlierRun := false } →
    (u.acquisition ≠ .running → exec .forceCapture s = .next (conclude (refusedWith r .wrongState 0xFF u)))
    ∧ (u.acquisition = .running → ¬ ProfileUsable p u →
      exec .forceCapture s = .next (conclude (refusedWith r .notConfigured (byteOf (0x30 + p.val)) u)))
    ∧ (∀ n, u.acquisition = .running → ProfileUsable p u → u.openRecord[p] = some n →
      exec .forceCapture s = .next (conclude (replied r [0x01, byteOf n, byteOf (n / 256), 0x00]
        { u with
          records := changeFirst (fun y => y.number == n)
            (fun y => if y.retriggers.length < 4 then
                { y with
                  retriggers := y.retriggers ++
                    [{ source := .force, time := u.clock.timebase, extended := x.extend }]
                  flags := { y.flags with extended := y.flags.extended || x.extend }
                  parts := y.parts.map fun q =>
                    if x.extend && q.collecting then { q with remaining := x.postCount } else q }
              else { y with flags := { y.flags with retrigOverflow := true } }) u.records })))
    ∧ (u.acquisition = .running → ProfileUsable p u → u.openRecord[p] = none →
      (∀ k, x.mask.getLsbD k.val = true → (capturing k u).isSome = true) →
      (u.counters[4].value ≠ 0 →
        exec .forceCapture s = .next (conclude (replied r [0x02, 0, 0, 0x01] (countUp .captureLostOverlap u))))
      ∧ exec .forceCapture s = .next (conclude (offered
          (if u.counters[4].value = 0 then [.fault .captureLostOverlap u.clock.timebase] else [])
          (replied r [0x02, 0, 0, 0x01] { u with counters := put u.counters 4 { u.counters[4] with
            value := saturatingUp u.counters[4].value } }))))
    ∧ (∀ k, u.acquisition = .running → ProfileUsable p u → u.openRecord[p] = none → x.mask.getLsbD k.val = true →
      capturing k u = none → 32 ≤ u.records.length →
      (u.settings.policy = .refuseNew ∨ ∀ y ∈ u.records, ¬ (y.state = .closed ∧ y.flags.read = true)) →
      exec .forceCapture s = .next (conclude (offered
        (if u.counters[3].value = 0 then [.fault .captureLostFull u.clock.timebase] else [])
        (replied r [0x02, 0, 0, 0x02] { u with counters := put u.counters 3 { u.counters[3] with
          value := saturatingUp u.counters[3].value } }))))
    ∧ (∀ (k : Fin 16) (before after : List CaptureRecord) (y : CaptureRecord) (v : State), u.acquisition = .running →
      ProfileUsable p u → u.openRecord[p] = none → x.mask.getLsbD k.val = true → capturing k u = none →
      RecordNumbersSound u → u.settings.policy = .discardOldestRead → 32 ≤ u.records.length →
      u.records = before ++ y :: after → y.state = .closed → y.flags.read = true →
      (∀ z ∈ before, ¬ (z.state = .closed ∧ z.flags.read = true)) →
      v = { u with
            records := before ++ after
            free := u.free ++ (recordPages y).map blankPage
            counters := put u.counters 13 { u.counters[13] with value := saturatingUp u.counters[13].value } } →
      exec .forceCapture s = .next (conclude (offered
        ((if u.counters[13].value = 0 then [.fault .recordDiscarded u.clock.timebase] else [])
          ++ [.recordDiscarded y.number])
        (replied r [0x00, byteOf (freshNumber v), byteOf (freshNumber v / 256), 0x00] (afterOpening trigger v)))))
    ∧ (∀ k n, u.acquisition = .running → ProfileUsable p u → u.openRecord[p] = none → x.mask.getLsbD k.val = true →
      capturing k u = none → u.records.length < 32 → n = freshNumber u →
      exec .forceCapture s = .next (conclude
          (replied r [0x00, byteOf n, byteOf (n / 256), 0x00] (afterOpening trigger u)))
      ∧ ∃ (t : State) (y : CaptureRecord), t = afterOpening trigger u
        ∧ t.records = u.records ++ [y] ∧ y.number = n ∧ y.profile = p ∧ y.state = .opened ∧ y.source = .force
        ∧ y.time = u.clock.timebase ∧ y.sample = none ∧ y.retriggers = []
        ∧ t.openRecord = put u.openRecord p (some n) ∧ t.pins = { u.pins with trigOut := some (microseconds 10) })

/-! ## Records, readouts and acknowledgements -/

/-- Read Record (R62, R207): READOUT_BUSY, NO_RECORD, NOT_SEALED and BAD_OFFSET in this order; otherwise the record is
READING and the source ACTIVE at the offset, with the request's tag and the image length. Cancel Readout (R65, R66, R208):
NO_READOUT when the source is IDLE; otherwise the record is SEALED again, the source is IDLE, a chunk already begun is no
longer the readout's, and READOUT_ENDED (CANCELLED) follows the reply. -/
def Obligations.ReadoutsBeginAndAreCancelled : Prop :=
  (∀ (r : Request) (s u : State) (n offset : Nat), FindsRequest r s u → r.type = 0x31 → 1 ≤ n → n ≤ 65535 →
    offset ≤ 65535 → r.payload = [byteOf n, byteOf (n / 256), byteOf offset, byteOf (offset / 256)] →
    (u.readout.state ≠ .idle → exec .readRecord s = .next (conclude (refusedWith r .readoutBusy 0xFF u)))
    ∧ (u.readout.state = .idle → findRecord n u = none →
      exec .readRecord s = .next (conclude (refusedWith r .noRecord 0xFF u)))
    ∧ ∀ x, u.readout.state = .idle → findRecord n u = some x →
      (x.state = .opened → exec .readRecord s = .next (conclude (refusedWith r .notSealed 0xFF u)))
      ∧ (x.state ≠ .opened → imageLength x ≤ offset →
        exec .readRecord s = .next (conclude (refusedWith r .badOffset 0xFF u)))
      ∧ (x.state ≠ .opened → offset < imageLength x →
        exec .readRecord s = .next (conclude (replied r
          [byteOf n, byteOf (n / 256), byteOf (imageLength x), byteOf (imageLength x / 256), flagsByte x.flags]
          { u with
            records := changeFirst (fun y => y.number == n) (fun y => { y with state := .reading }) u.records
            readout := { state := .active, record := n, tag := r.tag, length := imageLength x, offset := offset } }))))
  ∧ ∀ (r : Request) (s u : State), FindsRequest r s u → r.type = 0x32 → r.payload = [] →
    (u.readout.state = .idle → exec .cancelReadout s = .next (conclude (refusedWith r .noReadout 0xFF u)))
    ∧ (u.readout.state ≠ .idle → exec .cancelReadout s = .next (conclude (offered
        [.readoutEnded u.readout.record .cancelled u.readout.offset]
        (replied r []
          { u with
            records := changeFirst (fun y => y.number == u.readout.record) (fun y => { y with state := .closed })
              u.records
            readout := resetReadout
            transmit := { u.transmit with
              bulk := u.transmit.bulk.map fun chunk => { chunk with ofReadout := false } } }))))

/-- Release Record and Release All Sealed (R18, R47 to R49, R209, R210): a SEALED record leaves the table and its pages
return to the free list; a READING one only after its readout has ended with reason RELEASED; an OPEN one is refused with
NOT_SEALED, a number not in the table with NO_RECORD. -/
def Obligations.ReleasesReturnTheirPages : Prop :=
  (∀ (r : Request) (s u : State) (n : Nat), FindsRequest r s u → r.type = 0x33 → 1 ≤ n → n ≤ 65535 →
    r.payload = [byteOf n, byteOf (n / 256)] → RecordTableSound u →
    (n ∉ recordNumbers u → exec .releaseRecord s = .next (conclude (refusedWith r .noRecord 0xFF u)))
    ∧ ∀ (before after : List CaptureRecord) (x : CaptureRecord), u.records = before ++ x :: after → x.number = n →
      (x.state = .opened → exec .releaseRecord s = .next (conclude (refusedWith r .notSealed 0xFF u)))
      ∧ (x.state = .closed → exec .releaseRecord s = .next (conclude (replied r []
          { u with records := before ++ after, free := u.free ++ (recordPages x).map blankPage })))
      ∧ (x.state = .reading → exec .releaseRecord s = .next (conclude (offered
          [.readoutEnded n .released u.readout.offset]
          (replied r []
            { u with
              records := before ++ after
              free := u.free ++ (recordPages x).map blankPage
              readout := resetReadout
              transmit := { u.transmit with
                bulk := u.transmit.bulk.map fun chunk => { chunk with ofReadout := false } } })))))
  ∧ ∀ (r : Request) (s u : State) (gone : List CaptureRecord), FindsRequest r s u → r.type = 0x34 → r.payload = [] →
    RecordNumbersSound u → gone = (u.records.filter fun x => decide (x.state = .closed)) →
    exec .releaseAllSealed s = .next (conclude (replied r [byteOf gone.length]
      { u with
        records := u.records.filter fun x => decide (x.state ≠ .closed)
        free := u.free ++ (gone.flatMap recordPages).map blankPage }))

/-! ## Invariants that every step keeps -/

/-- Each of the 192 pages keeps exactly one owner: the free list, one ring or one record (R1, R2). -/
def Obligations.PagesKeepOneOwner : Prop :=
  ∀ s t : State, PagesConserved s → step s = .next t → PagesConserved t

/-- The record table stays sound: at most 32 records with distinct numbers of 1 to 65535, and exactly the record that a
readout names is READING (R33, R46, R61). -/
def Obligations.RecordTableStaysSound : Prop :=
  ∀ s t : State, RecordTableSound s → step s = .next t → RecordTableSound t

/-- While acquisition is IDLE no record is OPEN, no ring holds a page, every sink is NONE, no round is in progress and the
pacer is STOPPED (R9, R19, R101, R130). -/
def Obligations.IdleStaysQuiet : Prop := ∀ s t : State, IdleIsQuiet s → step s = .next t → IdleIsQuiet t

/-- A watch or the external trigger is in a state other than DISARMED only while RUNNING and enabled (R81, R88). -/
def Obligations.ArmingFollowsAcquisition : Prop :=
  ∀ s t : State, ArmedOnlyWhileRunning s → step s = .next t → ArmedOnlyWhileRunning t

/-- The alarm list, the queues, the counters and the retrigger lists stay within their capacities (R27, R134, R135, R139,
R148, R165, R171, R184). -/
def Obligations.CapacitiesAreKept : Prop :=
  ∀ s t : State, AlarmListSound s → QueuesBounded s → CountsBounded s → step s = .next t →
    AlarmListSound t ∧ QueuesBounded t ∧ CountsBounded t

/-- Frames in transmission stay nested by class, each of a higher class than the one beneath it, at most three deep, and
each queue holds frames of its own class (R170, R174). -/
def Obligations.PreemptionStaysNested : Prop := ∀ s t : State, NestingLegal s → step s = .next t → NestingLegal t

/-- The part right after reset meets every invariant. -/
def Obligations.ResetMeetsEveryInvariant : Prop :=
  PagesConserved State.reset ∧ RecordTableSound State.reset ∧ IdleIsQuiet State.reset
  ∧ ArmedOnlyWhileRunning State.reset ∧ AlarmListSound State.reset ∧ QueuesBounded State.reset
  ∧ CountsBounded State.reset ∧ NestingLegal State.reset
end

