-- ==== Sys2Proof/Laws/State.lean ====
section
/-! SUPPORT. The named updates of State, field by field: what each sets, and that it leaves every other field as it
stands. -/

namespace Sys2Proof.Machine

variable (s : State)

/-! ### setCounter -/

@[simp] theorem setCounter_clock (id : CounterId) (c : Counter) : (setCounter id c s).clock = s.clock := rfl
@[simp] theorem setCounter_resetting (id : CounterId) (c : Counter) : (setCounter id c s).resetting = s.resetting := rfl
@[simp] theorem setCounter_pins (id : CounterId) (c : Counter) : (setCounter id c s).pins = s.pins := rfl
@[simp] theorem setCounter_scan (id : CounterId) (c : Counter) : (setCounter id c s).scan = s.scan := rfl
@[simp] theorem setCounter_round (id : CounterId) (c : Counter) : (setCounter id c s).round = s.round := rfl
@[simp] theorem setCounter_pacer (id : CounterId) (c : Counter) : (setCounter id c s).pacer = s.pacer := rfl
@[simp] theorem setCounter_streams (id : CounterId) (c : Counter) : (setCounter id c s).streams = s.streams := rfl
@[simp] theorem setCounter_coefficients (id : CounterId) (c : Counter) :
    (setCounter id c s).coefficients = s.coefficients := rfl
@[simp] theorem setCounter_filters (id : CounterId) (c : Counter) : (setCounter id c s).filters = s.filters := rfl
@[simp] theorem setCounter_free (id : CounterId) (c : Counter) : (setCounter id c s).free = s.free := rfl
@[simp] theorem setCounter_rings (id : CounterId) (c : Counter) : (setCounter id c s).rings = s.rings := rfl
@[simp] theorem setCounter_sinks (id : CounterId) (c : Counter) : (setCounter id c s).sinks = s.sinks := rfl
@[simp] theorem setCounter_profiles (id : CounterId) (c : Counter) : (setCounter id c s).profiles = s.profiles := rfl
@[simp] theorem setCounter_openRecord (id : CounterId) (c : Counter) :
    (setCounter id c s).openRecord = s.openRecord := rfl
@[simp] theorem setCounter_records (id : CounterId) (c : Counter) : (setCounter id c s).records = s.records := rfl
@[simp] theorem setCounter_nextRecord (id : CounterId) (c : Counter) :
    (setCounter id c s).nextRecord = s.nextRecord := rfl
@[simp] theorem setCounter_readout (id : CounterId) (c : Counter) : (setCounter id c s).readout = s.readout := rfl
@[simp] theorem setCounter_watches (id : CounterId) (c : Counter) : (setCounter id c s).watches = s.watches := rfl
@[simp] theorem setCounter_external (id : CounterId) (c : Counter) : (setCounter id c s).external = s.external := rfl
@[simp] theorem setCounter_triggers (id : CounterId) (c : Counter) : (setCounter id c s).triggers = s.triggers := rfl
@[simp] theorem setCounter_acquisition (id : CounterId) (c : Counter) :
    (setCounter id c s).acquisition = s.acquisition := rfl
@[simp] theorem setCounter_settings (id : CounterId) (c : Counter) : (setCounter id c s).settings = s.settings := rfl
@[simp] theorem setCounter_alarms (id : CounterId) (c : Counter) : (setCounter id c s).alarms = s.alarms := rfl
@[simp] theorem setCounter_nextAlarm (id : CounterId) (c : Counter) : (setCounter id c s).nextAlarm = s.nextAlarm := rfl
@[simp] theorem setCounter_dropCount (id : CounterId) (c : Counter) : (setCounter id c s).dropCount = s.dropCount := rfl
@[simp] theorem setCounter_alarmRequests (id : CounterId) (c : Counter) :
    (setCounter id c s).alarmRequests = s.alarmRequests := rfl
@[simp] theorem setCounter_counters (id : CounterId) (c : Counter) :
    (setCounter id c s).counters = put s.counters (counterIndex id) c := rfl
@[simp] theorem setCounter_receiver (id : CounterId) (c : Counter) : (setCounter id c s).receiver = s.receiver := rfl
@[simp] theorem setCounter_inbound (id : CounterId) (c : Counter) : (setCounter id c s).inbound = s.inbound := rfl
@[simp] theorem setCounter_transmit (id : CounterId) (c : Counter) : (setCounter id c s).transmit = s.transmit := rfl
@[simp] theorem setCounter_dispatcher (id : CounterId) (c : Counter) :
    (setCounter id c s).dispatcher = s.dispatcher := rfl
@[simp] theorem setCounter_draws (id : CounterId) (c : Counter) : (setCounter id c s).draws = s.draws := rfl
@[simp] theorem setCounter_pending (id : CounterId) (c : Counter) : (setCounter id c s).pending = s.pending := rfl

/-! ### queueNormal -/

@[simp] theorem queueNormal_clock (f : Frame) : (queueNormal f s).clock = s.clock := rfl
@[simp] theorem queueNormal_resetting (f : Frame) : (queueNormal f s).resetting = s.resetting := rfl
@[simp] theorem queueNormal_pins (f : Frame) : (queueNormal f s).pins = s.pins := rfl
@[simp] theorem queueNormal_scan (f : Frame) : (queueNormal f s).scan = s.scan := rfl
@[simp] theorem queueNormal_round (f : Frame) : (queueNormal f s).round = s.round := rfl
@[simp] theorem queueNormal_pacer (f : Frame) : (queueNormal f s).pacer = s.pacer := rfl
@[simp] theorem queueNormal_streams (f : Frame) : (queueNormal f s).streams = s.streams := rfl
@[simp] theorem queueNormal_coefficients (f : Frame) : (queueNormal f s).coefficients = s.coefficients := rfl
@[simp] theorem queueNormal_filters (f : Frame) : (queueNormal f s).filters = s.filters := rfl
@[simp] theorem queueNormal_free (f : Frame) : (queueNormal f s).free = s.free := rfl
@[simp] theorem queueNormal_rings (f : Frame) : (queueNormal f s).rings = s.rings := rfl
@[simp] theorem queueNormal_sinks (f : Frame) : (queueNormal f s).sinks = s.sinks := rfl
@[simp] theorem queueNormal_profiles (f : Frame) : (queueNormal f s).profiles = s.profiles := rfl
@[simp] theorem queueNormal_openRecord (f : Frame) : (queueNormal f s).openRecord = s.openRecord := rfl
@[simp] theorem queueNormal_records (f : Frame) : (queueNormal f s).records = s.records := rfl
@[simp] theorem queueNormal_nextRecord (f : Frame) : (queueNormal f s).nextRecord = s.nextRecord := rfl
@[simp] theorem queueNormal_readout (f : Frame) : (queueNormal f s).readout = s.readout := rfl
@[simp] theorem queueNormal_watches (f : Frame) : (queueNormal f s).watches = s.watches := rfl
@[simp] theorem queueNormal_external (f : Frame) : (queueNormal f s).external = s.external := rfl
@[simp] theorem queueNormal_triggers (f : Frame) : (queueNormal f s).triggers = s.triggers := rfl
@[simp] theorem queueNormal_acquisition (f : Frame) : (queueNormal f s).acquisition = s.acquisition := rfl
@[simp] theorem queueNormal_settings (f : Frame) : (queueNormal f s).settings = s.settings := rfl
@[simp] theorem queueNormal_alarms (f : Frame) : (queueNormal f s).alarms = s.alarms := rfl
@[simp] theorem queueNormal_nextAlarm (f : Frame) : (queueNormal f s).nextAlarm = s.nextAlarm := rfl
@[simp] theorem queueNormal_dropCount (f : Frame) : (queueNormal f s).dropCount = s.dropCount := rfl
@[simp] theorem queueNormal_alarmRequests (f : Frame) : (queueNormal f s).alarmRequests = s.alarmRequests := rfl
@[simp] theorem queueNormal_counters (f : Frame) : (queueNormal f s).counters = s.counters := rfl
@[simp] theorem queueNormal_receiver (f : Frame) : (queueNormal f s).receiver = s.receiver := rfl
@[simp] theorem queueNormal_inbound (f : Frame) : (queueNormal f s).inbound = s.inbound := rfl
@[simp] theorem queueNormal_transmit (f : Frame) :
    (queueNormal f s).transmit = { s.transmit with normal := s.transmit.normal ++ [f] } := rfl
@[simp] theorem queueNormal_dispatcher (f : Frame) : (queueNormal f s).dispatcher = s.dispatcher := rfl
@[simp] theorem queueNormal_draws (f : Frame) : (queueNormal f s).draws = s.draws := rfl
@[simp] theorem queueNormal_pending (f : Frame) : (queueNormal f s).pending = s.pending := rfl

/-! ### holdNotices -/

@[simp] theorem holdNotices_clock : (holdNotices s).clock = s.clock := rfl
@[simp] theorem holdNotices_resetting : (holdNotices s).resetting = s.resetting := rfl
@[simp] theorem holdNotices_pins : (holdNotices s).pins = s.pins := rfl
@[simp] theorem holdNotices_scan : (holdNotices s).scan = s.scan := rfl
@[simp] theorem holdNotices_round : (holdNotices s).round = s.round := rfl
@[simp] theorem holdNotices_pacer : (holdNotices s).pacer = s.pacer := rfl
@[simp] theorem holdNotices_streams : (holdNotices s).streams = s.streams := rfl
@[simp] theorem holdNotices_coefficients : (holdNotices s).coefficients = s.coefficients := rfl
@[simp] theorem holdNotices_filters : (holdNotices s).filters = s.filters := rfl
@[simp] theorem holdNotices_free : (holdNotices s).free = s.free := rfl
@[simp] theorem holdNotices_rings : (holdNotices s).rings = s.rings := rfl
@[simp] theorem holdNotices_sinks : (holdNotices s).sinks = s.sinks := rfl
@[simp] theorem holdNotices_profiles : (holdNotices s).profiles = s.profiles := rfl
@[simp] theorem holdNotices_openRecord : (holdNotices s).openRecord = s.openRecord := rfl
@[simp] theorem holdNotices_records : (holdNotices s).records = s.records := rfl
@[simp] theorem holdNotices_nextRecord : (holdNotices s).nextRecord = s.nextRecord := rfl
@[simp] theorem holdNotices_readout : (holdNotices s).readout = s.readout := rfl
@[simp] theorem holdNotices_watches : (holdNotices s).watches = s.watches := rfl
@[simp] theorem holdNotices_external : (holdNotices s).external = s.external := rfl
@[simp] theorem holdNotices_triggers : (holdNotices s).triggers = s.triggers := rfl
@[simp] theorem holdNotices_acquisition : (holdNotices s).acquisition = s.acquisition := rfl
@[simp] theorem holdNotices_settings : (holdNotices s).settings = s.settings := rfl
@[simp] theorem holdNotices_alarms : (holdNotices s).alarms = s.alarms := rfl
@[simp] theorem holdNotices_nextAlarm : (holdNotices s).nextAlarm = s.nextAlarm := rfl
@[simp] theorem holdNotices_dropCount : (holdNotices s).dropCount = s.dropCount := rfl
@[simp] theorem holdNotices_alarmRequests : (holdNotices s).alarmRequests = s.alarmRequests := rfl
@[simp] theorem holdNotices_counters : (holdNotices s).counters = s.counters := rfl
@[simp] theorem holdNotices_receiver : (holdNotices s).receiver = s.receiver := rfl
@[simp] theorem holdNotices_inbound : (holdNotices s).inbound = s.inbound := rfl
@[simp] theorem holdNotices_transmit : (holdNotices s).transmit = s.transmit := rfl
@[simp] theorem holdNotices_dispatcher : (holdNotices s).dispatcher = { s.dispatcher with held := some [] } := rfl
@[simp] theorem holdNotices_draws : (holdNotices s).draws = s.draws := rfl
@[simp] theorem holdNotices_pending : (holdNotices s).pending = s.pending := rfl

/-! ### stopHolding -/

@[simp] theorem stopHolding_clock : (stopHolding s).clock = s.clock := rfl
@[simp] theorem stopHolding_resetting : (stopHolding s).resetting = s.resetting := rfl
@[simp] theorem stopHolding_pins : (stopHolding s).pins = s.pins := rfl
@[simp] theorem stopHolding_scan : (stopHolding s).scan = s.scan := rfl
@[simp] theorem stopHolding_round : (stopHolding s).round = s.round := rfl
@[simp] theorem stopHolding_pacer : (stopHolding s).pacer = s.pacer := rfl
@[simp] theorem stopHolding_streams : (stopHolding s).streams = s.streams := rfl
@[simp] theorem stopHolding_coefficients : (stopHolding s).coefficients = s.coefficients := rfl
@[simp] theorem stopHolding_filters : (stopHolding s).filters = s.filters := rfl
@[simp] theorem stopHolding_free : (stopHolding s).free = s.free := rfl
@[simp] theorem stopHolding_rings : (stopHolding s).rings = s.rings := rfl
@[simp] theorem stopHolding_sinks : (stopHolding s).sinks = s.sinks := rfl
@[simp] theorem stopHolding_profiles : (stopHolding s).profiles = s.profiles := rfl
@[simp] theorem stopHolding_openRecord : (stopHolding s).openRecord = s.openRecord := rfl
@[simp] theorem stopHolding_records : (stopHolding s).records = s.records := rfl
@[simp] theorem stopHolding_nextRecord : (stopHolding s).nextRecord = s.nextRecord := rfl
@[simp] theorem stopHolding_readout : (stopHolding s).readout = s.readout := rfl
@[simp] theorem stopHolding_watches : (stopHolding s).watches = s.watches := rfl
@[simp] theorem stopHolding_external : (stopHolding s).external = s.external := rfl
@[simp] theorem stopHolding_triggers : (stopHolding s).triggers = s.triggers := rfl
@[simp] theorem stopHolding_acquisition : (stopHolding s).acquisition = s.acquisition := rfl
@[simp] theorem stopHolding_settings : (stopHolding s).settings = s.settings := rfl
@[simp] theorem stopHolding_alarms : (stopHolding s).alarms = s.alarms := rfl
@[simp] theorem stopHolding_nextAlarm : (stopHolding s).nextAlarm = s.nextAlarm := rfl
@[simp] theorem stopHolding_dropCount : (stopHolding s).dropCount = s.dropCount := rfl
@[simp] theorem stopHolding_alarmRequests : (stopHolding s).alarmRequests = s.alarmRequests := rfl
@[simp] theorem stopHolding_counters : (stopHolding s).counters = s.counters := rfl
@[simp] theorem stopHolding_receiver : (stopHolding s).receiver = s.receiver := rfl
@[simp] theorem stopHolding_inbound : (stopHolding s).inbound = s.inbound := rfl
@[simp] theorem stopHolding_transmit : (stopHolding s).transmit = s.transmit := rfl
@[simp] theorem stopHolding_dispatcher : (stopHolding s).dispatcher = { s.dispatcher with held := none } := rfl
@[simp] theorem stopHolding_draws : (stopHolding s).draws = s.draws := rfl
@[simp] theorem stopHolding_pending : (stopHolding s).pending = s.pending := rfl

/-! ### giveBack -/

@[simp] theorem giveBack_clock (pages : List Page) : (giveBack pages s).clock = s.clock := rfl
@[simp] theorem giveBack_resetting (pages : List Page) : (giveBack pages s).resetting = s.resetting := rfl
@[simp] theorem giveBack_pins (pages : List Page) : (giveBack pages s).pins = s.pins := rfl
@[simp] theorem giveBack_scan (pages : List Page) : (giveBack pages s).scan = s.scan := rfl
@[simp] theorem giveBack_round (pages : List Page) : (giveBack pages s).round = s.round := rfl
@[simp] theorem giveBack_pacer (pages : List Page) : (giveBack pages s).pacer = s.pacer := rfl
@[simp] theorem giveBack_streams (pages : List Page) : (giveBack pages s).streams = s.streams := rfl
@[simp] theorem giveBack_coefficients (pages : List Page) : (giveBack pages s).coefficients = s.coefficients := rfl
@[simp] theorem giveBack_filters (pages : List Page) : (giveBack pages s).filters = s.filters := rfl
@[simp] theorem giveBack_free (pages : List Page) : (giveBack pages s).free = s.free ++ pages.map blankPage := rfl
@[simp] theorem giveBack_rings (pages : List Page) : (giveBack pages s).rings = s.rings := rfl
@[simp] theorem giveBack_sinks (pages : List Page) : (giveBack pages s).sinks = s.sinks := rfl
@[simp] theorem giveBack_profiles (pages : List Page) : (giveBack pages s).profiles = s.profiles := rfl
@[simp] theorem giveBack_openRecord (pages : List Page) : (giveBack pages s).openRecord = s.openRecord := rfl
@[simp] theorem giveBack_records (pages : List Page) : (giveBack pages s).records = s.records := rfl
@[simp] theorem giveBack_nextRecord (pages : List Page) : (giveBack pages s).nextRecord = s.nextRecord := rfl
@[simp] theorem giveBack_readout (pages : List Page) : (giveBack pages s).readout = s.readout := rfl
@[simp] theorem giveBack_watches (pages : List Page) : (giveBack pages s).watches = s.watches := rfl
@[simp] theorem giveBack_external (pages : List Page) : (giveBack pages s).external = s.external := rfl
@[simp] theorem giveBack_triggers (pages : List Page) : (giveBack pages s).triggers = s.triggers := rfl
@[simp] theorem giveBack_acquisition (pages : List Page) : (giveBack pages s).acquisition = s.acquisition := rfl
@[simp] theorem giveBack_settings (pages : List Page) : (giveBack pages s).settings = s.settings := rfl
@[simp] theorem giveBack_alarms (pages : List Page) : (giveBack pages s).alarms = s.alarms := rfl
@[simp] theorem giveBack_nextAlarm (pages : List Page) : (giveBack pages s).nextAlarm = s.nextAlarm := rfl
@[simp] theorem giveBack_dropCount (pages : List Page) : (giveBack pages s).dropCount = s.dropCount := rfl
@[simp] theorem giveBack_alarmRequests (pages : List Page) : (giveBack pages s).alarmRequests = s.alarmRequests := rfl
@[simp] theorem giveBack_counters (pages : List Page) : (giveBack pages s).counters = s.counters := rfl
@[simp] theorem giveBack_receiver (pages : List Page) : (giveBack pages s).receiver = s.receiver := rfl
@[simp] theorem giveBack_inbound (pages : List Page) : (giveBack pages s).inbound = s.inbound := rfl
@[simp] theorem giveBack_transmit (pages : List Page) : (giveBack pages s).transmit = s.transmit := rfl
@[simp] theorem giveBack_dispatcher (pages : List Page) : (giveBack pages s).dispatcher = s.dispatcher := rfl
@[simp] theorem giveBack_draws (pages : List Page) : (giveBack pages s).draws = s.draws := rfl
@[simp] theorem giveBack_pending (pages : List Page) : (giveBack pages s).pending = s.pending := rfl

/-! ### setRing -/

@[simp] theorem setRing_clock (k : Fin 16) (r : Ring) : (setRing k r s).clock = s.clock := rfl
@[simp] theorem setRing_resetting (k : Fin 16) (r : Ring) : (setRing k r s).resetting = s.resetting := rfl
@[simp] theorem setRing_pins (k : Fin 16) (r : Ring) : (setRing k r s).pins = s.pins := rfl
@[simp] theorem setRing_scan (k : Fin 16) (r : Ring) : (setRing k r s).scan = s.scan := rfl
@[simp] theorem setRing_round (k : Fin 16) (r : Ring) : (setRing k r s).round = s.round := rfl
@[simp] theorem setRing_pacer (k : Fin 16) (r : Ring) : (setRing k r s).pacer = s.pacer := rfl
@[simp] theorem setRing_streams (k : Fin 16) (r : Ring) : (setRing k r s).streams = s.streams := rfl
@[simp] theorem setRing_coefficients (k : Fin 16) (r : Ring) : (setRing k r s).coefficients = s.coefficients := rfl
@[simp] theorem setRing_filters (k : Fin 16) (r : Ring) : (setRing k r s).filters = s.filters := rfl
@[simp] theorem setRing_free (k : Fin 16) (r : Ring) : (setRing k r s).free = s.free := rfl
@[simp] theorem setRing_rings (k : Fin 16) (r : Ring) : (setRing k r s).rings = put s.rings k r := rfl
@[simp] theorem setRing_sinks (k : Fin 16) (r : Ring) : (setRing k r s).sinks = s.sinks := rfl
@[simp] theorem setRing_profiles (k : Fin 16) (r : Ring) : (setRing k r s).profiles = s.profiles := rfl
@[simp] theorem setRing_openRecord (k : Fin 16) (r : Ring) : (setRing k r s).openRecord = s.openRecord := rfl
@[simp] theorem setRing_records (k : Fin 16) (r : Ring) : (setRing k r s).records = s.records := rfl
@[simp] theorem setRing_nextRecord (k : Fin 16) (r : Ring) : (setRing k r s).nextRecord = s.nextRecord := rfl
@[simp] theorem setRing_readout (k : Fin 16) (r : Ring) : (setRing k r s).readout = s.readout := rfl
@[simp] theorem setRing_watches (k : Fin 16) (r : Ring) : (setRing k r s).watches = s.watches := rfl
@[simp] theorem setRing_external (k : Fin 16) (r : Ring) : (setRing k r s).external = s.external := rfl
@[simp] theorem setRing_triggers (k : Fin 16) (r : Ring) : (setRing k r s).triggers = s.triggers := rfl
@[simp] theorem setRing_acquisition (k : Fin 16) (r : Ring) : (setRing k r s).acquisition = s.acquisition := rfl
@[simp] theorem setRing_settings (k : Fin 16) (r : Ring) : (setRing k r s).settings = s.settings := rfl
@[simp] theorem setRing_alarms (k : Fin 16) (r : Ring) : (setRing k r s).alarms = s.alarms := rfl
@[simp] theorem setRing_nextAlarm (k : Fin 16) (r : Ring) : (setRing k r s).nextAlarm = s.nextAlarm := rfl
@[simp] theorem setRing_dropCount (k : Fin 16) (r : Ring) : (setRing k r s).dropCount = s.dropCount := rfl
@[simp] theorem setRing_alarmRequests (k : Fin 16) (r : Ring) : (setRing k r s).alarmRequests = s.alarmRequests := rfl
@[simp] theorem setRing_counters (k : Fin 16) (r : Ring) : (setRing k r s).counters = s.counters := rfl
@[simp] theorem setRing_receiver (k : Fin 16) (r : Ring) : (setRing k r s).receiver = s.receiver := rfl
@[simp] theorem setRing_inbound (k : Fin 16) (r : Ring) : (setRing k r s).inbound = s.inbound := rfl
@[simp] theorem setRing_transmit (k : Fin 16) (r : Ring) : (setRing k r s).transmit = s.transmit := rfl
@[simp] theorem setRing_dispatcher (k : Fin 16) (r : Ring) : (setRing k r s).dispatcher = s.dispatcher := rfl
@[simp] theorem setRing_draws (k : Fin 16) (r : Ring) : (setRing k r s).draws = s.draws := rfl
@[simp] theorem setRing_pending (k : Fin 16) (r : Ring) : (setRing k r s).pending = s.pending := rfl

/-! ### setSink -/

@[simp] theorem setSink_clock (k : Fin 16) (x : Sink) : (setSink k x s).clock = s.clock := rfl
@[simp] theorem setSink_resetting (k : Fin 16) (x : Sink) : (setSink k x s).resetting = s.resetting := rfl
@[simp] theorem setSink_pins (k : Fin 16) (x : Sink) : (setSink k x s).pins = s.pins := rfl
@[simp] theorem setSink_scan (k : Fin 16) (x : Sink) : (setSink k x s).scan = s.scan := rfl
@[simp] theorem setSink_round (k : Fin 16) (x : Sink) : (setSink k x s).round = s.round := rfl
@[simp] theorem setSink_pacer (k : Fin 16) (x : Sink) : (setSink k x s).pacer = s.pacer := rfl
@[simp] theorem setSink_streams (k : Fin 16) (x : Sink) : (setSink k x s).streams = s.streams := rfl
@[simp] theorem setSink_coefficients (k : Fin 16) (x : Sink) : (setSink k x s).coefficients = s.coefficients := rfl
@[simp] theorem setSink_filters (k : Fin 16) (x : Sink) : (setSink k x s).filters = s.filters := rfl
@[simp] theorem setSink_free (k : Fin 16) (x : Sink) : (setSink k x s).free = s.free := rfl
@[simp] theorem setSink_rings (k : Fin 16) (x : Sink) : (setSink k x s).rings = s.rings := rfl
@[simp] theorem setSink_sinks (k : Fin 16) (x : Sink) : (setSink k x s).sinks = put s.sinks k x := rfl
@[simp] theorem setSink_profiles (k : Fin 16) (x : Sink) : (setSink k x s).profiles = s.profiles := rfl
@[simp] theorem setSink_openRecord (k : Fin 16) (x : Sink) : (setSink k x s).openRecord = s.openRecord := rfl
@[simp] theorem setSink_records (k : Fin 16) (x : Sink) : (setSink k x s).records = s.records := rfl
@[simp] theorem setSink_nextRecord (k : Fin 16) (x : Sink) : (setSink k x s).nextRecord = s.nextRecord := rfl
@[simp] theorem setSink_readout (k : Fin 16) (x : Sink) : (setSink k x s).readout = s.readout := rfl
@[simp] theorem setSink_watches (k : Fin 16) (x : Sink) : (setSink k x s).watches = s.watches := rfl
@[simp] theorem setSink_external (k : Fin 16) (x : Sink) : (setSink k x s).external = s.external := rfl
@[simp] theorem setSink_triggers (k : Fin 16) (x : Sink) : (setSink k x s).triggers = s.triggers := rfl
@[simp] theorem setSink_acquisition (k : Fin 16) (x : Sink) : (setSink k x s).acquisition = s.acquisition := rfl
@[simp] theorem setSink_settings (k : Fin 16) (x : Sink) : (setSink k x s).settings = s.settings := rfl
@[simp] theorem setSink_alarms (k : Fin 16) (x : Sink) : (setSink k x s).alarms = s.alarms := rfl
@[simp] theorem setSink_nextAlarm (k : Fin 16) (x : Sink) : (setSink k x s).nextAlarm = s.nextAlarm := rfl
@[simp] theorem setSink_dropCount (k : Fin 16) (x : Sink) : (setSink k x s).dropCount = s.dropCount := rfl
@[simp] theorem setSink_alarmRequests (k : Fin 16) (x : Sink) : (setSink k x s).alarmRequests = s.alarmRequests := rfl
@[simp] theorem setSink_counters (k : Fin 16) (x : Sink) : (setSink k x s).counters = s.counters := rfl
@[simp] theorem setSink_receiver (k : Fin 16) (x : Sink) : (setSink k x s).receiver = s.receiver := rfl
@[simp] theorem setSink_inbound (k : Fin 16) (x : Sink) : (setSink k x s).inbound = s.inbound := rfl
@[simp] theorem setSink_transmit (k : Fin 16) (x : Sink) : (setSink k x s).transmit = s.transmit := rfl
@[simp] theorem setSink_dispatcher (k : Fin 16) (x : Sink) : (setSink k x s).dispatcher = s.dispatcher := rfl
@[simp] theorem setSink_draws (k : Fin 16) (x : Sink) : (setSink k x s).draws = s.draws := rfl
@[simp] theorem setSink_pending (k : Fin 16) (x : Sink) : (setSink k x s).pending = s.pending := rfl

/-! ### changeRecord -/

@[simp] theorem changeRecord_clock (n : Nat) (f : CaptureRecord → CaptureRecord) :
    (changeRecord n f s).clock = s.clock := rfl
@[simp] theorem changeRecord_resetting (n : Nat) (f : CaptureRecord → CaptureRecord) :
    (changeRecord n f s).resetting = s.resetting := rfl
@[simp] theorem changeRecord_pins (n : Nat) (f : CaptureRecord → CaptureRecord) :
    (changeRecord n f s).pins = s.pins := rfl
@[simp] theorem changeRecord_scan (n : Nat) (f : CaptureRecord → CaptureRecord) :
    (changeRecord n f s).scan = s.scan := rfl
@[simp] theorem changeRecord_round (n : Nat) (f : CaptureRecord → CaptureRecord) :
    (changeRecord n f s).round = s.round := rfl
@[simp] theorem changeRecord_pacer (n : Nat) (f : CaptureRecord → CaptureRecord) :
    (changeRecord n f s).pacer = s.pacer := rfl
@[simp] theorem changeRecord_streams (n : Nat) (f : CaptureRecord → CaptureRecord) :
    (changeRecord n f s).streams = s.streams := rfl
@[simp] theorem changeRecord_coefficients (n : Nat) (f : CaptureRecord → CaptureRecord) :
    (changeRecord n f s).coefficients = s.coefficients := rfl
@[simp] theorem changeRecord_filters (n : Nat) (f : CaptureRecord → CaptureRecord) :
    (changeRecord n f s).filters = s.filters := rfl
@[simp] theorem changeRecord_free (n : Nat) (f : CaptureRecord → CaptureRecord) :
    (changeRecord n f s).free = s.free := rfl
@[simp] theorem changeRecord_rings (n : Nat) (f : CaptureRecord → CaptureRecord) :
    (changeRecord n f s).rings = s.rings := rfl
@[simp] theorem changeRecord_sinks (n : Nat) (f : CaptureRecord → CaptureRecord) :
    (changeRecord n f s).sinks = s.sinks := rfl
@[simp] theorem changeRecord_profiles (n : Nat) (f : CaptureRecord → CaptureRecord) :
    (changeRecord n f s).profiles = s.profiles := rfl
@[simp] theorem changeRecord_openRecord (n : Nat) (f : CaptureRecord → CaptureRecord) :
    (changeRecord n f s).openRecord = s.openRecord := rfl
@[simp] theorem changeRecord_records (n : Nat) (f : CaptureRecord → CaptureRecord) :
    (changeRecord n f s).records = changeFirst (fun r => r.number == n) f s.records := rfl
@[simp] theorem changeRecord_nextRecord (n : Nat) (f : CaptureRecord → CaptureRecord) :
    (changeRecord n f s).nextRecord = s.nextRecord := rfl
@[simp] theorem changeRecord_readout (n : Nat) (f : CaptureRecord → CaptureRecord) :
    (changeRecord n f s).readout = s.readout := rfl
@[simp] theorem changeRecord_watches (n : Nat) (f : CaptureRecord → CaptureRecord) :
    (changeRecord n f s).watches = s.watches := rfl
@[simp] theorem changeRecord_external (n : Nat) (f : CaptureRecord → CaptureRecord) :
    (changeRecord n f s).external = s.external := rfl
@[simp] theorem changeRecord_triggers (n : Nat) (f : CaptureRecord → CaptureRecord) :
    (changeRecord n f s).triggers = s.triggers := rfl
@[simp] theorem changeRecord_acquisition (n : Nat) (f : CaptureRecord → CaptureRecord) :
    (changeRecord n f s).acquisition = s.acquisition := rfl
@[simp] theorem changeRecord_settings (n : Nat) (f : CaptureRecord → CaptureRecord) :
    (changeRecord n f s).settings = s.settings := rfl
@[simp] theorem changeRecord_alarms (n : Nat) (f : CaptureRecord → CaptureRecord) :
    (changeRecord n f s).alarms = s.alarms := rfl
@[simp] theorem changeRecord_nextAlarm (n : Nat) (f : CaptureRecord → CaptureRecord) :
    (changeRecord n f s).nextAlarm = s.nextAlarm := rfl
@[simp] theorem changeRecord_dropCount (n : Nat) (f : CaptureRecord → CaptureRecord) :
    (changeRecord n f s).dropCount = s.dropCount := rfl
@[simp] theorem changeRecord_alarmRequests (n : Nat) (f : CaptureRecord → CaptureRecord) :
    (changeRecord n f s).alarmRequests = s.alarmRequests := rfl
@[simp] theorem changeRecord_counters (n : Nat) (f : CaptureRecord → CaptureRecord) :
    (changeRecord n f s).counters = s.counters := rfl
@[simp] theorem changeRecord_receiver (n : Nat) (f : CaptureRecord → CaptureRecord) :
    (changeRecord n f s).receiver = s.receiver := rfl
@[simp] theorem changeRecord_inbound (n : Nat) (f : CaptureRecord → CaptureRecord) :
    (changeRecord n f s).inbound = s.inbound := rfl
@[simp] theorem changeRecord_transmit (n : Nat) (f : CaptureRecord → CaptureRecord) :
    (changeRecord n f s).transmit = s.transmit := rfl
@[simp] theorem changeRecord_dispatcher (n : Nat) (f : CaptureRecord → CaptureRecord) :
    (changeRecord n f s).dispatcher = s.dispatcher := rfl
@[simp] theorem changeRecord_draws (n : Nat) (f : CaptureRecord → CaptureRecord) :
    (changeRecord n f s).draws = s.draws := rfl
@[simp] theorem changeRecord_pending (n : Nat) (f : CaptureRecord → CaptureRecord) :
    (changeRecord n f s).pending = s.pending := rfl

/-! ### removeRecord -/

@[simp] theorem removeRecord_clock (n : Nat) : (removeRecord n s).clock = s.clock := rfl
@[simp] theorem removeRecord_resetting (n : Nat) : (removeRecord n s).resetting = s.resetting := rfl
@[simp] theorem removeRecord_pins (n : Nat) : (removeRecord n s).pins = s.pins := rfl
@[simp] theorem removeRecord_scan (n : Nat) : (removeRecord n s).scan = s.scan := rfl
@[simp] theorem removeRecord_round (n : Nat) : (removeRecord n s).round = s.round := rfl
@[simp] theorem removeRecord_pacer (n : Nat) : (removeRecord n s).pacer = s.pacer := rfl
@[simp] theorem removeRecord_streams (n : Nat) : (removeRecord n s).streams = s.streams := rfl
@[simp] theorem removeRecord_coefficients (n : Nat) : (removeRecord n s).coefficients = s.coefficients := rfl
@[simp] theorem removeRecord_filters (n : Nat) : (removeRecord n s).filters = s.filters := rfl
@[simp] theorem removeRecord_free (n : Nat) :
    (removeRecord n s).free = s.free ++ ((s.records.filter fun r => r.number == n).flatMap recordPages).map blankPage := rfl
@[simp] theorem removeRecord_rings (n : Nat) : (removeRecord n s).rings = s.rings := rfl
@[simp] theorem removeRecord_sinks (n : Nat) : (removeRecord n s).sinks = s.sinks := rfl
@[simp] theorem removeRecord_profiles (n : Nat) : (removeRecord n s).profiles = s.profiles := rfl
@[simp] theorem removeRecord_openRecord (n : Nat) : (removeRecord n s).openRecord = s.openRecord := rfl
@[simp] theorem removeRecord_records (n : Nat) :
    (removeRecord n s).records = s.records.filter fun r => !(r.number == n) := rfl
@[simp] theorem removeRecord_nextRecord (n : Nat) : (removeRecord n s).nextRecord = s.nextRecord := rfl
@[simp] theorem removeRecord_readout (n : Nat) : (removeRecord n s).readout = s.readout := rfl
@[simp] theorem removeRecord_watches (n : Nat) : (removeRecord n s).watches = s.watches := rfl
@[simp] theorem removeRecord_external (n : Nat) : (removeRecord n s).external = s.external := rfl
@[simp] theorem removeRecord_triggers (n : Nat) : (removeRecord n s).triggers = s.triggers := rfl
@[simp] theorem removeRecord_acquisition (n : Nat) : (removeRecord n s).acquisition = s.acquisition := rfl
@[simp] theorem removeRecord_settings (n : Nat) : (removeRecord n s).settings = s.settings := rfl
@[simp] theorem removeRecord_alarms (n : Nat) : (removeRecord n s).alarms = s.alarms := rfl
@[simp] theorem removeRecord_nextAlarm (n : Nat) : (removeRecord n s).nextAlarm = s.nextAlarm := rfl
@[simp] theorem removeRecord_dropCount (n : Nat) : (removeRecord n s).dropCount = s.dropCount := rfl
@[simp] theorem removeRecord_alarmRequests (n : Nat) : (removeRecord n s).alarmRequests = s.alarmRequests := rfl
@[simp] theorem removeRecord_counters (n : Nat) : (removeRecord n s).counters = s.counters := rfl
@[simp] theorem removeRecord_receiver (n : Nat) : (removeRecord n s).receiver = s.receiver := rfl
@[simp] theorem removeRecord_inbound (n : Nat) : (removeRecord n s).inbound = s.inbound := rfl
@[simp] theorem removeRecord_transmit (n : Nat) : (removeRecord n s).transmit = s.transmit := rfl
@[simp] theorem removeRecord_dispatcher (n : Nat) : (removeRecord n s).dispatcher = s.dispatcher := rfl
@[simp] theorem removeRecord_draws (n : Nat) : (removeRecord n s).draws = s.draws := rfl
@[simp] theorem removeRecord_pending (n : Nat) : (removeRecord n s).pending = s.pending := rfl

/-! ### setFilter -/

@[simp] theorem setFilter_clock (k : Fin 16) (f : FilterState) : (setFilter k f s).clock = s.clock := rfl
@[simp] theorem setFilter_resetting (k : Fin 16) (f : FilterState) : (setFilter k f s).resetting = s.resetting := rfl
@[simp] theorem setFilter_pins (k : Fin 16) (f : FilterState) : (setFilter k f s).pins = s.pins := rfl
@[simp] theorem setFilter_scan (k : Fin 16) (f : FilterState) : (setFilter k f s).scan = s.scan := rfl
@[simp] theorem setFilter_round (k : Fin 16) (f : FilterState) : (setFilter k f s).round = s.round := rfl
@[simp] theorem setFilter_pacer (k : Fin 16) (f : FilterState) : (setFilter k f s).pacer = s.pacer := rfl
@[simp] theorem setFilter_streams (k : Fin 16) (f : FilterState) : (setFilter k f s).streams = s.streams := rfl
@[simp] theorem setFilter_coefficients (k : Fin 16) (f : FilterState) :
    (setFilter k f s).coefficients = s.coefficients := rfl
@[simp] theorem setFilter_filters (k : Fin 16) (f : FilterState) : (setFilter k f s).filters = put s.filters k f := rfl
@[simp] theorem setFilter_free (k : Fin 16) (f : FilterState) : (setFilter k f s).free = s.free := rfl
@[simp] theorem setFilter_rings (k : Fin 16) (f : FilterState) : (setFilter k f s).rings = s.rings := rfl
@[simp] theorem setFilter_sinks (k : Fin 16) (f : FilterState) : (setFilter k f s).sinks = s.sinks := rfl
@[simp] theorem setFilter_profiles (k : Fin 16) (f : FilterState) : (setFilter k f s).profiles = s.profiles := rfl
@[simp] theorem setFilter_openRecord (k : Fin 16) (f : FilterState) : (setFilter k f s).openRecord = s.openRecord := rfl
@[simp] theorem setFilter_records (k : Fin 16) (f : FilterState) : (setFilter k f s).records = s.records := rfl
@[simp] theorem setFilter_nextRecord (k : Fin 16) (f : FilterState) : (setFilter k f s).nextRecord = s.nextRecord := rfl
@[simp] theorem setFilter_readout (k : Fin 16) (f : FilterState) : (setFilter k f s).readout = s.readout := rfl
@[simp] theorem setFilter_watches (k : Fin 16) (f : FilterState) : (setFilter k f s).watches = s.watches := rfl
@[simp] theorem setFilter_external (k : Fin 16) (f : FilterState) : (setFilter k f s).external = s.external := rfl
@[simp] theorem setFilter_triggers (k : Fin 16) (f : FilterState) : (setFilter k f s).triggers = s.triggers := rfl
@[simp] theorem setFilter_acquisition (k : Fin 16) (f : FilterState) :
    (setFilter k f s).acquisition = s.acquisition := rfl
@[simp] theorem setFilter_settings (k : Fin 16) (f : FilterState) : (setFilter k f s).settings = s.settings := rfl
@[simp] theorem setFilter_alarms (k : Fin 16) (f : FilterState) : (setFilter k f s).alarms = s.alarms := rfl
@[simp] theorem setFilter_nextAlarm (k : Fin 16) (f : FilterState) : (setFilter k f s).nextAlarm = s.nextAlarm := rfl
@[simp] theorem setFilter_dropCount (k : Fin 16) (f : FilterState) : (setFilter k f s).dropCount = s.dropCount := rfl
@[simp] theorem setFilter_alarmRequests (k : Fin 16) (f : FilterState) :
    (setFilter k f s).alarmRequests = s.alarmRequests := rfl
@[simp] theorem setFilter_counters (k : Fin 16) (f : FilterState) : (setFilter k f s).counters = s.counters := rfl
@[simp] theorem setFilter_receiver (k : Fin 16) (f : FilterState) : (setFilter k f s).receiver = s.receiver := rfl
@[simp] theorem setFilter_inbound (k : Fin 16) (f : FilterState) : (setFilter k f s).inbound = s.inbound := rfl
@[simp] theorem setFilter_transmit (k : Fin 16) (f : FilterState) : (setFilter k f s).transmit = s.transmit := rfl
@[simp] theorem setFilter_dispatcher (k : Fin 16) (f : FilterState) : (setFilter k f s).dispatcher = s.dispatcher := rfl
@[simp] theorem setFilter_draws (k : Fin 16) (f : FilterState) : (setFilter k f s).draws = s.draws := rfl
@[simp] theorem setFilter_pending (k : Fin 16) (f : FilterState) : (setFilter k f s).pending = s.pending := rfl

/-! ### setWatch -/

@[simp] theorem setWatch_clock (w : Fin 8) (x : Watch) : (setWatch w x s).clock = s.clock := rfl
@[simp] theorem setWatch_resetting (w : Fin 8) (x : Watch) : (setWatch w x s).resetting = s.resetting := rfl
@[simp] theorem setWatch_pins (w : Fin 8) (x : Watch) : (setWatch w x s).pins = s.pins := rfl
@[simp] theorem setWatch_scan (w : Fin 8) (x : Watch) : (setWatch w x s).scan = s.scan := rfl
@[simp] theorem setWatch_round (w : Fin 8) (x : Watch) : (setWatch w x s).round = s.round := rfl
@[simp] theorem setWatch_pacer (w : Fin 8) (x : Watch) : (setWatch w x s).pacer = s.pacer := rfl
@[simp] theorem setWatch_streams (w : Fin 8) (x : Watch) : (setWatch w x s).streams = s.streams := rfl
@[simp] theorem setWatch_coefficients (w : Fin 8) (x : Watch) : (setWatch w x s).coefficients = s.coefficients := rfl
@[simp] theorem setWatch_filters (w : Fin 8) (x : Watch) : (setWatch w x s).filters = s.filters := rfl
@[simp] theorem setWatch_free (w : Fin 8) (x : Watch) : (setWatch w x s).free = s.free := rfl
@[simp] theorem setWatch_rings (w : Fin 8) (x : Watch) : (setWatch w x s).rings = s.rings := rfl
@[simp] theorem setWatch_sinks (w : Fin 8) (x : Watch) : (setWatch w x s).sinks = s.sinks := rfl
@[simp] theorem setWatch_profiles (w : Fin 8) (x : Watch) : (setWatch w x s).profiles = s.profiles := rfl
@[simp] theorem setWatch_openRecord (w : Fin 8) (x : Watch) : (setWatch w x s).openRecord = s.openRecord := rfl
@[simp] theorem setWatch_records (w : Fin 8) (x : Watch) : (setWatch w x s).records = s.records := rfl
@[simp] theorem setWatch_nextRecord (w : Fin 8) (x : Watch) : (setWatch w x s).nextRecord = s.nextRecord := rfl
@[simp] theorem setWatch_readout (w : Fin 8) (x : Watch) : (setWatch w x s).readout = s.readout := rfl
@[simp] theorem setWatch_watches (w : Fin 8) (x : Watch) : (setWatch w x s).watches = put s.watches w x := rfl
@[simp] theorem setWatch_external (w : Fin 8) (x : Watch) : (setWatch w x s).external = s.external := rfl
@[simp] theorem setWatch_triggers (w : Fin 8) (x : Watch) : (setWatch w x s).triggers = s.triggers := rfl
@[simp] theorem setWatch_acquisition (w : Fin 8) (x : Watch) : (setWatch w x s).acquisition = s.acquisition := rfl
@[simp] theorem setWatch_settings (w : Fin 8) (x : Watch) : (setWatch w x s).settings = s.settings := rfl
@[simp] theorem setWatch_alarms (w : Fin 8) (x : Watch) : (setWatch w x s).alarms = s.alarms := rfl
@[simp] theorem setWatch_nextAlarm (w : Fin 8) (x : Watch) : (setWatch w x s).nextAlarm = s.nextAlarm := rfl
@[simp] theorem setWatch_dropCount (w : Fin 8) (x : Watch) : (setWatch w x s).dropCount = s.dropCount := rfl
@[simp] theorem setWatch_alarmRequests (w : Fin 8) (x : Watch) : (setWatch w x s).alarmRequests = s.alarmRequests := rfl
@[simp] theorem setWatch_counters (w : Fin 8) (x : Watch) : (setWatch w x s).counters = s.counters := rfl
@[simp] theorem setWatch_receiver (w : Fin 8) (x : Watch) : (setWatch w x s).receiver = s.receiver := rfl
@[simp] theorem setWatch_inbound (w : Fin 8) (x : Watch) : (setWatch w x s).inbound = s.inbound := rfl
@[simp] theorem setWatch_transmit (w : Fin 8) (x : Watch) : (setWatch w x s).transmit = s.transmit := rfl
@[simp] theorem setWatch_dispatcher (w : Fin 8) (x : Watch) : (setWatch w x s).dispatcher = s.dispatcher := rfl
@[simp] theorem setWatch_draws (w : Fin 8) (x : Watch) : (setWatch w x s).draws = s.draws := rfl
@[simp] theorem setWatch_pending (w : Fin 8) (x : Watch) : (setWatch w x s).pending = s.pending := rfl

/-! ### evaluate -/

@[simp] theorem evaluate_clock (x : FilteredSample) : (evaluate x s).clock = s.clock := rfl
@[simp] theorem evaluate_resetting (x : FilteredSample) : (evaluate x s).resetting = s.resetting := rfl
@[simp] theorem evaluate_pins (x : FilteredSample) : (evaluate x s).pins = s.pins := rfl
@[simp] theorem evaluate_scan (x : FilteredSample) : (evaluate x s).scan = s.scan := rfl
@[simp] theorem evaluate_round (x : FilteredSample) : (evaluate x s).round = s.round := rfl
@[simp] theorem evaluate_pacer (x : FilteredSample) : (evaluate x s).pacer = s.pacer := rfl
@[simp] theorem evaluate_streams (x : FilteredSample) : (evaluate x s).streams = s.streams := rfl
@[simp] theorem evaluate_coefficients (x : FilteredSample) : (evaluate x s).coefficients = s.coefficients := rfl
@[simp] theorem evaluate_filters (x : FilteredSample) : (evaluate x s).filters = s.filters := rfl
@[simp] theorem evaluate_free (x : FilteredSample) : (evaluate x s).free = s.free := rfl
@[simp] theorem evaluate_rings (x : FilteredSample) : (evaluate x s).rings = s.rings := rfl
@[simp] theorem evaluate_sinks (x : FilteredSample) : (evaluate x s).sinks = s.sinks := rfl
@[simp] theorem evaluate_profiles (x : FilteredSample) : (evaluate x s).profiles = s.profiles := rfl
@[simp] theorem evaluate_openRecord (x : FilteredSample) : (evaluate x s).openRecord = s.openRecord := rfl
@[simp] theorem evaluate_records (x : FilteredSample) : (evaluate x s).records = s.records := rfl
@[simp] theorem evaluate_nextRecord (x : FilteredSample) : (evaluate x s).nextRecord = s.nextRecord := rfl
@[simp] theorem evaluate_readout (x : FilteredSample) : (evaluate x s).readout = s.readout := rfl
@[simp] theorem evaluate_watches (x : FilteredSample) : (evaluate x s).watches = s.watches.map (judge x) := rfl
@[simp] theorem evaluate_external (x : FilteredSample) : (evaluate x s).external = s.external := rfl
@[simp] theorem evaluate_triggers (x : FilteredSample) : (evaluate x s).triggers = s.triggers := rfl
@[simp] theorem evaluate_acquisition (x : FilteredSample) : (evaluate x s).acquisition = s.acquisition := rfl
@[simp] theorem evaluate_settings (x : FilteredSample) : (evaluate x s).settings = s.settings := rfl
@[simp] theorem evaluate_alarms (x : FilteredSample) : (evaluate x s).alarms = s.alarms := rfl
@[simp] theorem evaluate_nextAlarm (x : FilteredSample) : (evaluate x s).nextAlarm = s.nextAlarm := rfl
@[simp] theorem evaluate_dropCount (x : FilteredSample) : (evaluate x s).dropCount = s.dropCount := rfl
@[simp] theorem evaluate_alarmRequests (x : FilteredSample) : (evaluate x s).alarmRequests = s.alarmRequests := rfl
@[simp] theorem evaluate_counters (x : FilteredSample) : (evaluate x s).counters = s.counters := rfl
@[simp] theorem evaluate_receiver (x : FilteredSample) : (evaluate x s).receiver = s.receiver := rfl
@[simp] theorem evaluate_inbound (x : FilteredSample) : (evaluate x s).inbound = s.inbound := rfl
@[simp] theorem evaluate_transmit (x : FilteredSample) : (evaluate x s).transmit = s.transmit := rfl
@[simp] theorem evaluate_dispatcher (x : FilteredSample) : (evaluate x s).dispatcher = s.dispatcher := rfl
@[simp] theorem evaluate_draws (x : FilteredSample) : (evaluate x s).draws = s.draws := rfl
@[simp] theorem evaluate_pending (x : FilteredSample) : (evaluate x s).pending = s.pending := rfl

/-! ### setReceiver -/

@[simp] theorem setReceiver_clock (r : Receiver) : (setReceiver r s).clock = s.clock := rfl
@[simp] theorem setReceiver_resetting (r : Receiver) : (setReceiver r s).resetting = s.resetting := rfl
@[simp] theorem setReceiver_pins (r : Receiver) : (setReceiver r s).pins = s.pins := rfl
@[simp] theorem setReceiver_scan (r : Receiver) : (setReceiver r s).scan = s.scan := rfl
@[simp] theorem setReceiver_round (r : Receiver) : (setReceiver r s).round = s.round := rfl
@[simp] theorem setReceiver_pacer (r : Receiver) : (setReceiver r s).pacer = s.pacer := rfl
@[simp] theorem setReceiver_streams (r : Receiver) : (setReceiver r s).streams = s.streams := rfl
@[simp] theorem setReceiver_coefficients (r : Receiver) : (setReceiver r s).coefficients = s.coefficients := rfl
@[simp] theorem setReceiver_filters (r : Receiver) : (setReceiver r s).filters = s.filters := rfl
@[simp] theorem setReceiver_free (r : Receiver) : (setReceiver r s).free = s.free := rfl
@[simp] theorem setReceiver_rings (r : Receiver) : (setReceiver r s).rings = s.rings := rfl
@[simp] theorem setReceiver_sinks (r : Receiver) : (setReceiver r s).sinks = s.sinks := rfl
@[simp] theorem setReceiver_profiles (r : Receiver) : (setReceiver r s).profiles = s.profiles := rfl
@[simp] theorem setReceiver_openRecord (r : Receiver) : (setReceiver r s).openRecord = s.openRecord := rfl
@[simp] theorem setReceiver_records (r : Receiver) : (setReceiver r s).records = s.records := rfl
@[simp] theorem setReceiver_nextRecord (r : Receiver) : (setReceiver r s).nextRecord = s.nextRecord := rfl
@[simp] theorem setReceiver_readout (r : Receiver) : (setReceiver r s).readout = s.readout := rfl
@[simp] theorem setReceiver_watches (r : Receiver) : (setReceiver r s).watches = s.watches := rfl
@[simp] theorem setReceiver_external (r : Receiver) : (setReceiver r s).external = s.external := rfl
@[simp] theorem setReceiver_triggers (r : Receiver) : (setReceiver r s).triggers = s.triggers := rfl
@[simp] theorem setReceiver_acquisition (r : Receiver) : (setReceiver r s).acquisition = s.acquisition := rfl
@[simp] theorem setReceiver_settings (r : Receiver) : (setReceiver r s).settings = s.settings := rfl
@[simp] theorem setReceiver_alarms (r : Receiver) : (setReceiver r s).alarms = s.alarms := rfl
@[simp] theorem setReceiver_nextAlarm (r : Receiver) : (setReceiver r s).nextAlarm = s.nextAlarm := rfl
@[simp] theorem setReceiver_dropCount (r : Receiver) : (setReceiver r s).dropCount = s.dropCount := rfl
@[simp] theorem setReceiver_alarmRequests (r : Receiver) : (setReceiver r s).alarmRequests = s.alarmRequests := rfl
@[simp] theorem setReceiver_counters (r : Receiver) : (setReceiver r s).counters = s.counters := rfl
@[simp] theorem setReceiver_receiver (r : Receiver) : (setReceiver r s).receiver = r := rfl
@[simp] theorem setReceiver_inbound (r : Receiver) : (setReceiver r s).inbound = s.inbound := rfl
@[simp] theorem setReceiver_transmit (r : Receiver) : (setReceiver r s).transmit = s.transmit := rfl
@[simp] theorem setReceiver_dispatcher (r : Receiver) : (setReceiver r s).dispatcher = s.dispatcher := rfl
@[simp] theorem setReceiver_draws (r : Receiver) : (setReceiver r s).draws = s.draws := rfl
@[simp] theorem setReceiver_pending (r : Receiver) : (setReceiver r s).pending = s.pending := rfl

/-! ### changeAlarm -/

@[simp] theorem changeAlarm_clock (id : Byte) (f : AlarmEntry → AlarmEntry) :
    (changeAlarm id f s).clock = s.clock := rfl
@[simp] theorem changeAlarm_resetting (id : Byte) (f : AlarmEntry → AlarmEntry) :
    (changeAlarm id f s).resetting = s.resetting := rfl
@[simp] theorem changeAlarm_pins (id : Byte) (f : AlarmEntry → AlarmEntry) : (changeAlarm id f s).pins = s.pins := rfl
@[simp] theorem changeAlarm_scan (id : Byte) (f : AlarmEntry → AlarmEntry) : (changeAlarm id f s).scan = s.scan := rfl
@[simp] theorem changeAlarm_round (id : Byte) (f : AlarmEntry → AlarmEntry) :
    (changeAlarm id f s).round = s.round := rfl
@[simp] theorem changeAlarm_pacer (id : Byte) (f : AlarmEntry → AlarmEntry) :
    (changeAlarm id f s).pacer = s.pacer := rfl
@[simp] theorem changeAlarm_streams (id : Byte) (f : AlarmEntry → AlarmEntry) :
    (changeAlarm id f s).streams = s.streams := rfl
@[simp] theorem changeAlarm_coefficients (id : Byte) (f : AlarmEntry → AlarmEntry) :
    (changeAlarm id f s).coefficients = s.coefficients := rfl
@[simp] theorem changeAlarm_filters (id : Byte) (f : AlarmEntry → AlarmEntry) :
    (changeAlarm id f s).filters = s.filters := rfl
@[simp] theorem changeAlarm_free (id : Byte) (f : AlarmEntry → AlarmEntry) : (changeAlarm id f s).free = s.free := rfl
@[simp] theorem changeAlarm_rings (id : Byte) (f : AlarmEntry → AlarmEntry) :
    (changeAlarm id f s).rings = s.rings := rfl
@[simp] theorem changeAlarm_sinks (id : Byte) (f : AlarmEntry → AlarmEntry) :
    (changeAlarm id f s).sinks = s.sinks := rfl
@[simp] theorem changeAlarm_profiles (id : Byte) (f : AlarmEntry → AlarmEntry) :
    (changeAlarm id f s).profiles = s.profiles := rfl
@[simp] theorem changeAlarm_openRecord (id : Byte) (f : AlarmEntry → AlarmEntry) :
    (changeAlarm id f s).openRecord = s.openRecord := rfl
@[simp] theorem changeAlarm_records (id : Byte) (f : AlarmEntry → AlarmEntry) :
    (changeAlarm id f s).records = s.records := rfl
@[simp] theorem changeAlarm_nextRecord (id : Byte) (f : AlarmEntry → AlarmEntry) :
    (changeAlarm id f s).nextRecord = s.nextRecord := rfl
@[simp] theorem changeAlarm_readout (id : Byte) (f : AlarmEntry → AlarmEntry) :
    (changeAlarm id f s).readout = s.readout := rfl
@[simp] theorem changeAlarm_watches (id : Byte) (f : AlarmEntry → AlarmEntry) :
    (changeAlarm id f s).watches = s.watches := rfl
@[simp] theorem changeAlarm_external (id : Byte) (f : AlarmEntry → AlarmEntry) :
    (changeAlarm id f s).external = s.external := rfl
@[simp] theorem changeAlarm_triggers (id : Byte) (f : AlarmEntry → AlarmEntry) :
    (changeAlarm id f s).triggers = s.triggers := rfl
@[simp] theorem changeAlarm_acquisition (id : Byte) (f : AlarmEntry → AlarmEntry) :
    (changeAlarm id f s).acquisition = s.acquisition := rfl
@[simp] theorem changeAlarm_settings (id : Byte) (f : AlarmEntry → AlarmEntry) :
    (changeAlarm id f s).settings = s.settings := rfl
@[simp] theorem changeAlarm_alarms (id : Byte) (f : AlarmEntry → AlarmEntry) :
    (changeAlarm id f s).alarms = changeFirst (fun e => e.id == id) f s.alarms := rfl
@[simp] theorem changeAlarm_nextAlarm (id : Byte) (f : AlarmEntry → AlarmEntry) :
    (changeAlarm id f s).nextAlarm = s.nextAlarm := rfl
@[simp] theorem changeAlarm_dropCount (id : Byte) (f : AlarmEntry → AlarmEntry) :
    (changeAlarm id f s).dropCount = s.dropCount := rfl
@[simp] theorem changeAlarm_alarmRequests (id : Byte) (f : AlarmEntry → AlarmEntry) :
    (changeAlarm id f s).alarmRequests = s.alarmRequests := rfl
@[simp] theorem changeAlarm_counters (id : Byte) (f : AlarmEntry → AlarmEntry) :
    (changeAlarm id f s).counters = s.counters := rfl
@[simp] theorem changeAlarm_receiver (id : Byte) (f : AlarmEntry → AlarmEntry) :
    (changeAlarm id f s).receiver = s.receiver := rfl
@[simp] theorem changeAlarm_inbound (id : Byte) (f : AlarmEntry → AlarmEntry) :
    (changeAlarm id f s).inbound = s.inbound := rfl
@[simp] theorem changeAlarm_transmit (id : Byte) (f : AlarmEntry → AlarmEntry) :
    (changeAlarm id f s).transmit = s.transmit := rfl
@[simp] theorem changeAlarm_dispatcher (id : Byte) (f : AlarmEntry → AlarmEntry) :
    (changeAlarm id f s).dispatcher = s.dispatcher := rfl
@[simp] theorem changeAlarm_draws (id : Byte) (f : AlarmEntry → AlarmEntry) :
    (changeAlarm id f s).draws = s.draws := rfl
@[simp] theorem changeAlarm_pending (id : Byte) (f : AlarmEntry → AlarmEntry) :
    (changeAlarm id f s).pending = s.pending := rfl

/-! ### removeAlarm -/

@[simp] theorem removeAlarm_clock (id : Byte) : (removeAlarm id s).clock = s.clock := rfl
@[simp] theorem removeAlarm_resetting (id : Byte) : (removeAlarm id s).resetting = s.resetting := rfl
@[simp] theorem removeAlarm_pins (id : Byte) : (removeAlarm id s).pins = s.pins := rfl
@[simp] theorem removeAlarm_scan (id : Byte) : (removeAlarm id s).scan = s.scan := rfl
@[simp] theorem removeAlarm_round (id : Byte) : (removeAlarm id s).round = s.round := rfl
@[simp] theorem removeAlarm_pacer (id : Byte) : (removeAlarm id s).pacer = s.pacer := rfl
@[simp] theorem removeAlarm_streams (id : Byte) : (removeAlarm id s).streams = s.streams := rfl
@[simp] theorem removeAlarm_coefficients (id : Byte) : (removeAlarm id s).coefficients = s.coefficients := rfl
@[simp] theorem removeAlarm_filters (id : Byte) : (removeAlarm id s).filters = s.filters := rfl
@[simp] theorem removeAlarm_free (id : Byte) : (removeAlarm id s).free = s.free := rfl
@[simp] theorem removeAlarm_rings (id : Byte) : (removeAlarm id s).rings = s.rings := rfl
@[simp] theorem removeAlarm_sinks (id : Byte) : (removeAlarm id s).sinks = s.sinks := rfl
@[simp] theorem removeAlarm_profiles (id : Byte) : (removeAlarm id s).profiles = s.profiles := rfl
@[simp] theorem removeAlarm_openRecord (id : Byte) : (removeAlarm id s).openRecord = s.openRecord := rfl
@[simp] theorem removeAlarm_records (id : Byte) : (removeAlarm id s).records = s.records := rfl
@[simp] theorem removeAlarm_nextRecord (id : Byte) : (removeAlarm id s).nextRecord = s.nextRecord := rfl
@[simp] theorem removeAlarm_readout (id : Byte) : (removeAlarm id s).readout = s.readout := rfl
@[simp] theorem removeAlarm_watches (id : Byte) : (removeAlarm id s).watches = s.watches := rfl
@[simp] theorem removeAlarm_external (id : Byte) : (removeAlarm id s).external = s.external := rfl
@[simp] theorem removeAlarm_triggers (id : Byte) : (removeAlarm id s).triggers = s.triggers := rfl
@[simp] theorem removeAlarm_acquisition (id : Byte) : (removeAlarm id s).acquisition = s.acquisition := rfl
@[simp] theorem removeAlarm_settings (id : Byte) : (removeAlarm id s).settings = s.settings := rfl
@[simp] theorem removeAlarm_alarms (id : Byte) :
    (removeAlarm id s).alarms = s.alarms.filter fun e => !(e.id == id) := rfl
@[simp] theorem removeAlarm_nextAlarm (id : Byte) : (removeAlarm id s).nextAlarm = s.nextAlarm := rfl
@[simp] theorem removeAlarm_dropCount (id : Byte) : (removeAlarm id s).dropCount = s.dropCount := rfl
@[simp] theorem removeAlarm_alarmRequests (id : Byte) : (removeAlarm id s).alarmRequests = s.alarmRequests := rfl
@[simp] theorem removeAlarm_counters (id : Byte) : (removeAlarm id s).counters = s.counters := rfl
@[simp] theorem removeAlarm_receiver (id : Byte) : (removeAlarm id s).receiver = s.receiver := rfl
@[simp] theorem removeAlarm_inbound (id : Byte) : (removeAlarm id s).inbound = s.inbound := rfl
@[simp] theorem removeAlarm_transmit (id : Byte) : (removeAlarm id s).transmit = s.transmit := rfl
@[simp] theorem removeAlarm_dispatcher (id : Byte) : (removeAlarm id s).dispatcher = s.dispatcher := rfl
@[simp] theorem removeAlarm_draws (id : Byte) : (removeAlarm id s).draws = s.draws := rfl
@[simp] theorem removeAlarm_pending (id : Byte) : (removeAlarm id s).pending = s.pending := rfl

/-! ### addDrops -/

@[simp] theorem addDrops_clock (n : Nat) : (addDrops n s).clock = s.clock := rfl
@[simp] theorem addDrops_resetting (n : Nat) : (addDrops n s).resetting = s.resetting := rfl
@[simp] theorem addDrops_pins (n : Nat) : (addDrops n s).pins = s.pins := rfl
@[simp] theorem addDrops_scan (n : Nat) : (addDrops n s).scan = s.scan := rfl
@[simp] theorem addDrops_round (n : Nat) : (addDrops n s).round = s.round := rfl
@[simp] theorem addDrops_pacer (n : Nat) : (addDrops n s).pacer = s.pacer := rfl
@[simp] theorem addDrops_streams (n : Nat) : (addDrops n s).streams = s.streams := rfl
@[simp] theorem addDrops_coefficients (n : Nat) : (addDrops n s).coefficients = s.coefficients := rfl
@[simp] theorem addDrops_filters (n : Nat) : (addDrops n s).filters = s.filters := rfl
@[simp] theorem addDrops_free (n : Nat) : (addDrops n s).free = s.free := rfl
@[simp] theorem addDrops_rings (n : Nat) : (addDrops n s).rings = s.rings := rfl
@[simp] theorem addDrops_sinks (n : Nat) : (addDrops n s).sinks = s.sinks := rfl
@[simp] theorem addDrops_profiles (n : Nat) : (addDrops n s).profiles = s.profiles := rfl
@[simp] theorem addDrops_openRecord (n : Nat) : (addDrops n s).openRecord = s.openRecord := rfl
@[simp] theorem addDrops_records (n : Nat) : (addDrops n s).records = s.records := rfl
@[simp] theorem addDrops_nextRecord (n : Nat) : (addDrops n s).nextRecord = s.nextRecord := rfl
@[simp] theorem addDrops_readout (n : Nat) : (addDrops n s).readout = s.readout := rfl
@[simp] theorem addDrops_watches (n : Nat) : (addDrops n s).watches = s.watches := rfl
@[simp] theorem addDrops_external (n : Nat) : (addDrops n s).external = s.external := rfl
@[simp] theorem addDrops_triggers (n : Nat) : (addDrops n s).triggers = s.triggers := rfl
@[simp] theorem addDrops_acquisition (n : Nat) : (addDrops n s).acquisition = s.acquisition := rfl
@[simp] theorem addDrops_settings (n : Nat) : (addDrops n s).settings = s.settings := rfl
@[simp] theorem addDrops_alarms (n : Nat) : (addDrops n s).alarms = s.alarms := rfl
@[simp] theorem addDrops_nextAlarm (n : Nat) : (addDrops n s).nextAlarm = s.nextAlarm := rfl
@[simp] theorem addDrops_dropCount (n : Nat) : (addDrops n s).dropCount = min dropMaximum (s.dropCount + n) := rfl
@[simp] theorem addDrops_alarmRequests (n : Nat) : (addDrops n s).alarmRequests = s.alarmRequests := rfl
@[simp] theorem addDrops_counters (n : Nat) : (addDrops n s).counters = s.counters := rfl
@[simp] theorem addDrops_receiver (n : Nat) : (addDrops n s).receiver = s.receiver := rfl
@[simp] theorem addDrops_inbound (n : Nat) : (addDrops n s).inbound = s.inbound := rfl
@[simp] theorem addDrops_transmit (n : Nat) : (addDrops n s).transmit = s.transmit := rfl
@[simp] theorem addDrops_dispatcher (n : Nat) : (addDrops n s).dispatcher = s.dispatcher := rfl
@[simp] theorem addDrops_draws (n : Nat) : (addDrops n s).draws = s.draws := rfl
@[simp] theorem addDrops_pending (n : Nat) : (addDrops n s).pending = s.pending := rfl

/-! ### sendCharacter -/

@[simp] theorem sendCharacter_clock (c : Byte) : (sendCharacter c s).clock = s.clock := rfl
@[simp] theorem sendCharacter_resetting (c : Byte) : (sendCharacter c s).resetting = s.resetting := rfl
@[simp] theorem sendCharacter_pins (c : Byte) : (sendCharacter c s).pins = s.pins := rfl
@[simp] theorem sendCharacter_scan (c : Byte) : (sendCharacter c s).scan = s.scan := rfl
@[simp] theorem sendCharacter_round (c : Byte) : (sendCharacter c s).round = s.round := rfl
@[simp] theorem sendCharacter_pacer (c : Byte) : (sendCharacter c s).pacer = s.pacer := rfl
@[simp] theorem sendCharacter_streams (c : Byte) : (sendCharacter c s).streams = s.streams := rfl
@[simp] theorem sendCharacter_coefficients (c : Byte) : (sendCharacter c s).coefficients = s.coefficients := rfl
@[simp] theorem sendCharacter_filters (c : Byte) : (sendCharacter c s).filters = s.filters := rfl
@[simp] theorem sendCharacter_free (c : Byte) : (sendCharacter c s).free = s.free := rfl
@[simp] theorem sendCharacter_rings (c : Byte) : (sendCharacter c s).rings = s.rings := rfl
@[simp] theorem sendCharacter_sinks (c : Byte) : (sendCharacter c s).sinks = s.sinks := rfl
@[simp] theorem sendCharacter_profiles (c : Byte) : (sendCharacter c s).profiles = s.profiles := rfl
@[simp] theorem sendCharacter_openRecord (c : Byte) : (sendCharacter c s).openRecord = s.openRecord := rfl
@[simp] theorem sendCharacter_records (c : Byte) : (sendCharacter c s).records = s.records := rfl
@[simp] theorem sendCharacter_nextRecord (c : Byte) : (sendCharacter c s).nextRecord = s.nextRecord := rfl
@[simp] theorem sendCharacter_readout (c : Byte) : (sendCharacter c s).readout = s.readout := rfl
@[simp] theorem sendCharacter_watches (c : Byte) : (sendCharacter c s).watches = s.watches := rfl
@[simp] theorem sendCharacter_external (c : Byte) : (sendCharacter c s).external = s.external := rfl
@[simp] theorem sendCharacter_triggers (c : Byte) : (sendCharacter c s).triggers = s.triggers := rfl
@[simp] theorem sendCharacter_acquisition (c : Byte) : (sendCharacter c s).acquisition = s.acquisition := rfl
@[simp] theorem sendCharacter_settings (c : Byte) : (sendCharacter c s).settings = s.settings := rfl
@[simp] theorem sendCharacter_alarms (c : Byte) : (sendCharacter c s).alarms = s.alarms := rfl
@[simp] theorem sendCharacter_nextAlarm (c : Byte) : (sendCharacter c s).nextAlarm = s.nextAlarm := rfl
@[simp] theorem sendCharacter_dropCount (c : Byte) : (sendCharacter c s).dropCount = s.dropCount := rfl
@[simp] theorem sendCharacter_alarmRequests (c : Byte) : (sendCharacter c s).alarmRequests = s.alarmRequests := rfl
@[simp] theorem sendCharacter_counters (c : Byte) : (sendCharacter c s).counters = s.counters := rfl
@[simp] theorem sendCharacter_receiver (c : Byte) : (sendCharacter c s).receiver = s.receiver := rfl
@[simp] theorem sendCharacter_inbound (c : Byte) : (sendCharacter c s).inbound = s.inbound := rfl
@[simp] theorem sendCharacter_transmit (c : Byte) :
    (sendCharacter c s).transmit = { s.transmit with line := some c, lineTime := characterTime s.transmit.rate } := rfl
@[simp] theorem sendCharacter_dispatcher (c : Byte) : (sendCharacter c s).dispatcher = s.dispatcher := rfl
@[simp] theorem sendCharacter_draws (c : Byte) : (sendCharacter c s).draws = s.draws := rfl
@[simp] theorem sendCharacter_pending (c : Byte) : (sendCharacter c s).pending = s.pending := rfl

/-! ### idleLine -/

@[simp] theorem idleLine_clock : (idleLine s).clock = s.clock := rfl
@[simp] theorem idleLine_resetting : (idleLine s).resetting = s.resetting := rfl
@[simp] theorem idleLine_pins : (idleLine s).pins = s.pins := rfl
@[simp] theorem idleLine_scan : (idleLine s).scan = s.scan := rfl
@[simp] theorem idleLine_round : (idleLine s).round = s.round := rfl
@[simp] theorem idleLine_pacer : (idleLine s).pacer = s.pacer := rfl
@[simp] theorem idleLine_streams : (idleLine s).streams = s.streams := rfl
@[simp] theorem idleLine_coefficients : (idleLine s).coefficients = s.coefficients := rfl
@[simp] theorem idleLine_filters : (idleLine s).filters = s.filters := rfl
@[simp] theorem idleLine_free : (idleLine s).free = s.free := rfl
@[simp] theorem idleLine_rings : (idleLine s).rings = s.rings := rfl
@[simp] theorem idleLine_sinks : (idleLine s).sinks = s.sinks := rfl
@[simp] theorem idleLine_profiles : (idleLine s).profiles = s.profiles := rfl
@[simp] theorem idleLine_openRecord : (idleLine s).openRecord = s.openRecord := rfl
@[simp] theorem idleLine_records : (idleLine s).records = s.records := rfl
@[simp] theorem idleLine_nextRecord : (idleLine s).nextRecord = s.nextRecord := rfl
@[simp] theorem idleLine_readout : (idleLine s).readout = s.readout := rfl
@[simp] theorem idleLine_watches : (idleLine s).watches = s.watches := rfl
@[simp] theorem idleLine_external : (idleLine s).external = s.external := rfl
@[simp] theorem idleLine_triggers : (idleLine s).triggers = s.triggers := rfl
@[simp] theorem idleLine_acquisition : (idleLine s).acquisition = s.acquisition := rfl
@[simp] theorem idleLine_settings : (idleLine s).settings = s.settings := rfl
@[simp] theorem idleLine_alarms : (idleLine s).alarms = s.alarms := rfl
@[simp] theorem idleLine_nextAlarm : (idleLine s).nextAlarm = s.nextAlarm := rfl
@[simp] theorem idleLine_dropCount : (idleLine s).dropCount = s.dropCount := rfl
@[simp] theorem idleLine_alarmRequests : (idleLine s).alarmRequests = s.alarmRequests := rfl
@[simp] theorem idleLine_counters : (idleLine s).counters = s.counters := rfl
@[simp] theorem idleLine_receiver : (idleLine s).receiver = s.receiver := rfl
@[simp] theorem idleLine_inbound : (idleLine s).inbound = s.inbound := rfl
@[simp] theorem idleLine_transmit : (idleLine s).transmit = { s.transmit with line := none, lineTime := 0 } := rfl
@[simp] theorem idleLine_dispatcher : (idleLine s).dispatcher = s.dispatcher := rfl
@[simp] theorem idleLine_draws : (idleLine s).draws = s.draws := rfl
@[simp] theorem idleLine_pending : (idleLine s).pending = s.pending := rfl

/-! ### freeDispatcher -/

@[simp] theorem freeDispatcher_clock : (freeDispatcher s).clock = s.clock := rfl
@[simp] theorem freeDispatcher_resetting : (freeDispatcher s).resetting = s.resetting := rfl
@[simp] theorem freeDispatcher_pins : (freeDispatcher s).pins = s.pins := rfl
@[simp] theorem freeDispatcher_scan : (freeDispatcher s).scan = s.scan := rfl
@[simp] theorem freeDispatcher_round : (freeDispatcher s).round = s.round := rfl
@[simp] theorem freeDispatcher_pacer : (freeDispatcher s).pacer = s.pacer := rfl
@[simp] theorem freeDispatcher_streams : (freeDispatcher s).streams = s.streams := rfl
@[simp] theorem freeDispatcher_coefficients : (freeDispatcher s).coefficients = s.coefficients := rfl
@[simp] theorem freeDispatcher_filters : (freeDispatcher s).filters = s.filters := rfl
@[simp] theorem freeDispatcher_free : (freeDispatcher s).free = s.free := rfl
@[simp] theorem freeDispatcher_rings : (freeDispatcher s).rings = s.rings := rfl
@[simp] theorem freeDispatcher_sinks : (freeDispatcher s).sinks = s.sinks := rfl
@[simp] theorem freeDispatcher_profiles : (freeDispatcher s).profiles = s.profiles := rfl
@[simp] theorem freeDispatcher_openRecord : (freeDispatcher s).openRecord = s.openRecord := rfl
@[simp] theorem freeDispatcher_records : (freeDispatcher s).records = s.records := rfl
@[simp] theorem freeDispatcher_nextRecord : (freeDispatcher s).nextRecord = s.nextRecord := rfl
@[simp] theorem freeDispatcher_readout : (freeDispatcher s).readout = s.readout := rfl
@[simp] theorem freeDispatcher_watches : (freeDispatcher s).watches = s.watches := rfl
@[simp] theorem freeDispatcher_external : (freeDispatcher s).external = s.external := rfl
@[simp] theorem freeDispatcher_triggers : (freeDispatcher s).triggers = s.triggers := rfl
@[simp] theorem freeDispatcher_acquisition : (freeDispatcher s).acquisition = s.acquisition := rfl
@[simp] theorem freeDispatcher_settings : (freeDispatcher s).settings = s.settings := rfl
@[simp] theorem freeDispatcher_alarms : (freeDispatcher s).alarms = s.alarms := rfl
@[simp] theorem freeDispatcher_nextAlarm : (freeDispatcher s).nextAlarm = s.nextAlarm := rfl
@[simp] theorem freeDispatcher_dropCount : (freeDispatcher s).dropCount = s.dropCount := rfl
@[simp] theorem freeDispatcher_alarmRequests : (freeDispatcher s).alarmRequests = s.alarmRequests := rfl
@[simp] theorem freeDispatcher_counters : (freeDispatcher s).counters = s.counters := rfl
@[simp] theorem freeDispatcher_receiver : (freeDispatcher s).receiver = s.receiver := rfl
@[simp] theorem freeDispatcher_inbound : (freeDispatcher s).inbound = s.inbound := rfl
@[simp] theorem freeDispatcher_transmit : (freeDispatcher s).transmit = s.transmit := rfl
@[simp] theorem freeDispatcher_dispatcher : (freeDispatcher s).dispatcher = { s.dispatcher with state := .free } := rfl
@[simp] theorem freeDispatcher_draws : (freeDispatcher s).draws = s.draws := rfl
@[simp] theorem freeDispatcher_pending : (freeDispatcher s).pending = s.pending := rfl

/-! ### elapse -/

@[simp] theorem elapse_clock (units : Nat) : (elapse units s).clock = advanceClock units s.clock := rfl
@[simp] theorem elapse_resetting (units : Nat) : (elapse units s).resetting = s.resetting := rfl
@[simp] theorem elapse_pins (units : Nat) :
    (elapse units s).pins = { s.pins with trigOut := s.pins.trigOut.map fun left => left - units } := rfl
@[simp] theorem elapse_scan (units : Nat) : (elapse units s).scan = s.scan := rfl
@[simp] theorem elapse_round (units : Nat) : (elapse units s).round = ageRound units s.round := rfl
@[simp] theorem elapse_pacer (units : Nat) : (elapse units s).pacer = agePacer units s.pacer := rfl
@[simp] theorem elapse_streams (units : Nat) : (elapse units s).streams = s.streams := rfl
@[simp] theorem elapse_coefficients (units : Nat) : (elapse units s).coefficients = s.coefficients := rfl
@[simp] theorem elapse_filters (units : Nat) : (elapse units s).filters = s.filters := rfl
@[simp] theorem elapse_free (units : Nat) : (elapse units s).free = s.free := rfl
@[simp] theorem elapse_rings (units : Nat) : (elapse units s).rings = s.rings := rfl
@[simp] theorem elapse_sinks (units : Nat) : (elapse units s).sinks = s.sinks := rfl
@[simp] theorem elapse_profiles (units : Nat) : (elapse units s).profiles = s.profiles := rfl
@[simp] theorem elapse_openRecord (units : Nat) : (elapse units s).openRecord = s.openRecord := rfl
@[simp] theorem elapse_records (units : Nat) : (elapse units s).records = s.records := rfl
@[simp] theorem elapse_nextRecord (units : Nat) : (elapse units s).nextRecord = s.nextRecord := rfl
@[simp] theorem elapse_readout (units : Nat) : (elapse units s).readout = s.readout := rfl
@[simp] theorem elapse_watches (units : Nat) : (elapse units s).watches = s.watches := rfl
@[simp] theorem elapse_external (units : Nat) :
    (elapse units s).external = { s.external with state := ageExternal units s.external.state } := rfl
@[simp] theorem elapse_triggers (units : Nat) : (elapse units s).triggers = s.triggers := rfl
@[simp] theorem elapse_acquisition (units : Nat) : (elapse units s).acquisition = s.acquisition := rfl
@[simp] theorem elapse_settings (units : Nat) : (elapse units s).settings = s.settings := rfl
@[simp] theorem elapse_alarms (units : Nat) : (elapse units s).alarms = s.alarms.map (ageAlarm units) := rfl
@[simp] theorem elapse_nextAlarm (units : Nat) : (elapse units s).nextAlarm = s.nextAlarm := rfl
@[simp] theorem elapse_dropCount (units : Nat) : (elapse units s).dropCount = s.dropCount := rfl
@[simp] theorem elapse_alarmRequests (units : Nat) : (elapse units s).alarmRequests = s.alarmRequests := rfl
@[simp] theorem elapse_counters (units : Nat) : (elapse units s).counters = s.counters := rfl
@[simp] theorem elapse_receiver (units : Nat) :
    (elapse units s).receiver = { s.receiver with timer := s.receiver.timer.map fun left => left - units } := rfl
@[simp] theorem elapse_inbound (units : Nat) : (elapse units s).inbound = s.inbound := rfl
@[simp] theorem elapse_transmit (units : Nat) :
    (elapse units s).transmit = { s.transmit with lineTime := s.transmit.lineTime - units } := rfl
@[simp] theorem elapse_dispatcher (units : Nat) : (elapse units s).dispatcher = s.dispatcher := rfl
@[simp] theorem elapse_draws (units : Nat) : (elapse units s).draws = s.draws := rfl
@[simp] theorem elapse_pending (units : Nat) : (elapse units s).pending = s.pending := rfl

end Sys2Proof.Machine
end

