-- ==== Sys2Proof/Laws/Ops.lean ====
section
/-! SUPPORT. What each shared operation can do, said once: a proof cites these instead of unfolding the operation. -/

namespace Sys2Proof.Machine

/-! ## Tables and lists -/

theorem put_self {α : Type} {n : Nat} (v : Vector α n) (k : Fin n) (x : α) : (put v k x)[k] = x := by simp [put]

theorem put_other {α : Type} {n : Nat} (v : Vector α n) (k j : Fin n) (x : α) (h : j ≠ k) : (put v k x)[j] = v[j] := by
  simp only [put, Fin.getElem_fin]
  exact Vector.getElem_set_ne _ _ fun e => h (Fin.ext e.symm)

theorem put_get {α : Type} {n : Nat} (v : Vector α n) (k j : Fin n) (x : α) :
    (put v k x)[j] = if j = k then x else v[j] := by
  split
  · next h => subst h; exact put_self v j x
  · next h => exact put_other v k j x h

theorem changeFirst_length {α : Type} (picks : α → Bool) (f : α → α) (l : List α) :
    (changeFirst picks f l).length = l.length := by
  induction l with
  | nil => rfl
  | cons x rest ih => simp only [changeFirst]; split <;> simp [ih]

/-- What `changeFirst` keeps of every member it keeps of the list. -/
theorem changeFirst_map {α β : Type} (picks : α → Bool) (f : α → α) (g : α → β) (l : List α)
    (h : ∀ x ∈ l, g (f x) = g x) : (changeFirst picks f l).map g = l.map g := by
  induction l with
  | nil => rfl
  | cons x rest ih =>
    simp only [changeFirst]
    split
    · simp [h x]
    · simp [ih fun y hy => h y (List.mem_cons_of_mem x hy)]

/-- A member after a change is a member as it stood, or one that was picked and changed. -/
theorem mem_changeFirst {α : Type} (picks : α → Bool) (f : α → α) (l : List α) (y : α) (h : y ∈ changeFirst picks f l) :
    y ∈ l ∨ ∃ x ∈ l, picks x = true ∧ y = f x := by
  induction l with
  | nil => cases h
  | cons x rest ih =>
    simp only [changeFirst] at h
    split at h
    · next hp =>
      rcases List.mem_cons.mp h with e | h
      · exact .inr ⟨x, List.mem_cons_self, hp, e⟩
      · exact .inl (List.mem_cons_of_mem x h)
    · rcases List.mem_cons.mp h with e | h
      · exact .inl (e ▸ List.mem_cons_self)
      · rcases ih h with h | ⟨z, hz, hp, e⟩
        · exact .inl (List.mem_cons_of_mem x h)
        · exact .inr ⟨z, List.mem_cons_of_mem x hz, hp, e⟩

/-- A change that nothing is picked for changes nothing. -/
theorem changeFirst_none {α : Type} (picks : α → Bool) (f : α → α) (l : List α) (h : ∀ x ∈ l, picks x = false) :
    changeFirst picks f l = l := by
  induction l with
  | nil => rfl
  | cons x rest ih =>
    simp [changeFirst, h x, ih fun y hy => h y (List.mem_cons_of_mem x hy)]

/-! ## Counters and notices -/

/-- A counter's rise without its notice changes that counter alone. -/
theorem countDroppedNotice_shape (s : State) : ∃ cs, countDroppedNotice s = { s with counters := cs } := by
  unfold countDroppedNotice; split <;> exact ⟨_, rfl⟩

theorem markNotice_shape (n : Notice) (m : Mark) (s : State) : ∃ cs, markNotice n m s = { s with counters := cs } := by
  cases n <;> exact ⟨_, rfl⟩

/-- An offered notice changes the counters, and at most joins the NORMAL queue, which then holds at most 6 (R145). -/
theorem offerNotice_shape (n : Notice) (s : State) :
    ∃ cs q, offerNotice n s = { s with counters := cs, transmit := { s.transmit with normal := q } }
      ∧ (q = s.transmit.normal ∨ (q = s.transmit.normal ++ [noticeFrame n] ∧ s.transmit.normal.length ≤ 5)) := by
  unfold offerNotice
  split
  · next h =>
    obtain ⟨cs, hc⟩ := markNotice_shape n .reported s
    refine ⟨cs, _, by rw [hc]; rfl, .inr ⟨rfl, ?_⟩⟩
    have h := of_decide_eq_true h; simp only [noticeReserve, normalTotal] at h; omega
  · obtain ⟨cs, hc⟩ := markNotice_shape n .unreported s
    obtain ⟨ds, hd⟩ := countDroppedNotice_shape (markNotice n .unreported s)
    exact ⟨ds, _, by rw [hd, hc], .inl rfl⟩

/-- A raised notice is held, or offered. -/
theorem raiseNotice_shape (n : Notice) (s : State) :
    ∃ cs q held, raiseNotice n s
        = { s with counters := cs, transmit := { s.transmit with normal := q },
                   dispatcher := { s.dispatcher with held := held } }
      ∧ (q = s.transmit.normal ∨ (q = s.transmit.normal ++ [noticeFrame n] ∧ s.transmit.normal.length ≤ 5)) := by
  unfold raiseNotice
  split
  · exact ⟨_, _, _, rfl, .inl rfl⟩
  · obtain ⟨cs, q, h, hq⟩ := offerNotice_shape n s
    exact ⟨cs, q, _, h, hq⟩

/-- While notices are held, a raised notice joins them and nothing else changes (R188). -/
theorem raiseNotice_held (n : Notice) (s : State) (held : List Notice) (h : s.dispatcher.held = some held) :
    raiseNotice n s = { s with dispatcher := { s.dispatcher with held := some (held ++ [n]) } } := by
  simp [raiseNotice, h]

/-- With no notice held, a raised notice is offered. -/
theorem raiseNotice_free (n : Notice) (s : State) (h : s.dispatcher.held = none) : raiseNotice n s = offerNotice n s := by
  simp [raiseNotice, h]

/-- A counter's cause changes the counters, the end of the NORMAL queue and the held notices. -/
theorem countUp_shape (id : CounterId) (s : State) :
    ∃ cs q held, countUp id s
        = { s with counters := cs, transmit := { s.transmit with normal := q },
                   dispatcher := { s.dispatcher with held := held } }
      ∧ (q = s.transmit.normal ∨ ∃ n, q = s.transmit.normal ++ [noticeFrame n] ∧ s.transmit.normal.length ≤ 5) := by
  unfold countUp
  split
  · split
    · exact ⟨_, _, _, rfl, .inl rfl⟩
    · exact ⟨_, _, _, rfl, .inl rfl⟩
    · obtain ⟨cs, q, held, h, hq⟩ := raiseNotice_shape (.fault id s.clock.timebase) (countOne id s)
      refine ⟨cs, q, held, by rw [h]; rfl, ?_⟩
      rcases hq with hq | ⟨hq, hl⟩
      · exact .inl hq
      · exact .inr ⟨_, hq, hl⟩
  · exact ⟨_, _, _, rfl, .inl rfl⟩

/-! ## The Page Pool -/

/-- A ring emptied: its pages stand blank at the end of the free list. -/
theorem emptyRingOf_eq (k : Fin 16) (s : State) :
    emptyRingOf k s
      = { s with rings := put s.rings k emptyRing, free := s.free ++ s.rings[k].run.pages.map blankPage } := rfl

/-- A granted request takes the head of the free list; the list was longer than the level. -/
theorem takePage_some (level : Nat) (s t : State) (p : Page) (h : takePage level s = some (p, t)) :
    ∃ rest, s.free = p :: rest ∧ level < s.free.length ∧ t = { s with free := rest } := by
  unfold takePage at h
  split at h
  · next q rest hq =>
    split at h
    · next hl =>
      simp only [Option.some.injEq, Prod.mk.injEq] at h
      obtain ⟨rfl, rfl⟩ := h
      exact ⟨rest, hq, hl, rfl⟩
    · cases h
  · cases h

/-- A refused request: the free list is no longer than the level. -/
theorem takePage_none (level : Nat) (s : State) (h : takePage level s = none) : s.free.length ≤ level := by
  unfold takePage at h
  split at h
  · split at h
    · cases h
    · omega
  · next hq => simp [hq]

/-- A ring's store changes the free list, the rings and, on a lost sample, what a counter's cause changes. -/
theorem ringStore_shape (k : Fin 16) (x : Sample) (s : State) :
    (∃ free rings, ringStore k x s = { s with free := free, rings := rings }) ∨ ringStore k x s = countUp .historyLost s := by
  unfold ringStore
  split
  · exact .inl ⟨_, _, rfl⟩
  · split
    · unfold ringGrow
      split
      · next p t ht =>
        obtain ⟨rest, _, _, e⟩ := takePage_some _ _ _ _ ht
        exact .inl ⟨rest, _, by rw [e]; rfl⟩
      · split
        · exact .inr rfl
        · exact .inl ⟨_, _, rfl⟩
    · exact .inl ⟨_, _, rfl⟩

/-! ## Collecting and closing -/

/-- A stream that stops collecting changes its record's part, its ring, the free list and its sink. -/
theorem stopCollecting_eq (n : Nat) (k : Fin 16) (s : State) :
    stopCollecting n k s
      = { s with
          records := changeFirst (fun r => r.number == n)
            (fun r =>
              { r with
                parts := changeFirst (fun p => p.stream == k)
                  (fun p => { p with run := encodePending p.run, collecting := false, remaining := 0 }) r.parts })
            s.records
          free := s.free ++ s.rings[k].run.pages.map blankPage
          rings := put s.rings k emptyRing
          sinks := put s.sinks k (idleSink s.streams[k]) } := rfl

/-- A record that closes is SEALED, leaves its profile without an OPEN record, and raises CAPTURE_DONE. -/
theorem closeRecord_eq (r : CaptureRecord) (s : State) :
    closeRecord r s = raiseNotice (.captureDone r.number r.flags (imageLength r))
      { s with
        records := changeFirst (fun x => x.number == r.number)
          (fun x => { x with state := .closed, closeTime := some s.clock.timebase }) s.records
        openRecord := put s.openRecord r.profile none } := rfl

/-- A record that is done closes; otherwise nothing happens. -/
theorem closeIfDone_cases (n : Nat) (s : State) :
    closeIfDone n s = s
    ∨ ∃ r, findRecord n s = some r ∧ r.state = .opened ∧ (∀ p ∈ r.parts, p.collecting = false)
        ∧ closeIfDone n s = closeRecord r s := by
  unfold closeIfDone
  split
  · next r hr =>
    split
    · next h =>
      simp only [isOpen, Bool.and_eq_true, decide_eq_true_eq, Bool.not_eq_true', List.any_eq_false,
        Bool.not_eq_true] at h
      exact .inr ⟨r, hr, h.1, h.2, rfl⟩
    · exact .inl rfl
  · exact .inl rfl

/-- Closing changes the record table, the open-record states, and what a raised notice changes. -/
theorem closeIfDone_shape (n : Nat) (s : State) :
    ∃ records openRecord cs q held, closeIfDone n s
      = { s with records := records, openRecord := openRecord, counters := cs,
                 transmit := { s.transmit with normal := q }, dispatcher := { s.dispatcher with held := held } } := by
  rcases closeIfDone_cases n s with h | ⟨r, _, _, _, h⟩
  · exact ⟨_, _, _, _, _, h⟩
  · rw [h, closeRecord_eq]
    obtain ⟨cs, q, held, e, _⟩ := raiseNotice_shape (.captureDone r.number r.flags (imageLength r))
      { s with
        records := changeFirst (fun x => x.number == r.number)
          (fun x => { x with state := .closed, closeTime := some s.clock.timebase }) s.records
        openRecord := put s.openRecord r.profile none }
    exact ⟨_, _, cs, q, held, e⟩

/-! ## Triggers, firings and alarm requests -/

/-- A firing sends a trigger or an alarm request, or nothing (R75, R76, R86). -/
theorem sendFiring_shape (profile : Option (Fin 4)) (alarm : Bool) (source : TriggerSource) (time : Time)
    (sample : Option TriggerSample) (s : State) :
    ∃ triggers requests, sendFiring profile alarm source time sample s
      = { s with triggers := triggers, alarmRequests := requests } := by
  unfold sendFiring
  split
  · exact ⟨_, _, rfl⟩
  · split <;> exact ⟨_, _, rfl⟩

/-- A trigger's alarm request changes the alarm requests alone, and joins their end (R76). -/
theorem requestAlarm_eq (t : Trigger) (outcome : TriggerOutcome) (s : State) :
    requestAlarm t outcome s = { s with alarmRequests := s.alarmRequests ++ alarmOf t (outcomeRecord outcome) } := by
  unfold requestAlarm alarmOf
  split
  · rfl
  · simp

/-- A watch that fires or ends its holdoff changes the watches, the triggers and the alarm requests on their way. -/
theorem settleWatches_shape (s : State) :
    ∃ watches triggers requests,
      settleWatches s = { s with watches := watches, triggers := triggers, alarmRequests := requests } := by
  have step : ∀ (w : Fin 8) (t : State), (∃ a b c, t = { s with watches := a, triggers := b, alarmRequests := c }) →
      ∃ a b c, fireWatch w (endHoldoff w t) = { s with watches := a, triggers := b, alarmRequests := c } := by
    rintro w _ ⟨a, b, c, rfl⟩
    have h1 : ∃ a', endHoldoff w { s with watches := a, triggers := b, alarmRequests := c }
        = { s with watches := a', triggers := b, alarmRequests := c } := by
      unfold endHoldoff; split <;> exact ⟨_, rfl⟩
    obtain ⟨a', h1⟩ := h1
    rw [h1]
    unfold fireWatch
    split
    · exact ⟨_, _, _, rfl⟩
    · obtain ⟨x, y, e⟩ := sendFiring_shape a'[w].definition.profile a'[w].definition.alarm (.watch w) _ _
        { s with watches := a', triggers := b, alarmRequests := c }
      exact ⟨_, x, y, by rw [e]; rfl⟩
  have all : ∀ (l : List (Fin 8)) (t : State), (∃ a b c, t = { s with watches := a, triggers := b, alarmRequests := c }) →
      ∃ a b c, l.foldl (fun t w => fireWatch w (endHoldoff w t)) t
        = { s with watches := a, triggers := b, alarmRequests := c } := by
    intro l
    induction l with
    | nil => intro t h; exact h
    | cons w rest ih => intro t h; exact ih _ (step w t h)
  exact all allWatches s ⟨_, _, _, rfl⟩

/-! ## The idle line -/

/-- A chunk is built without a look at the Dispatcher. -/
theorem buildChunk_dispatcher (s : State) (d : Dispatcher) :
    buildChunk { s with dispatcher := d } = (buildChunk s).map fun x => (x.1, { x.2 with dispatcher := d }) := by
  have hf : findRecord s.readout.record { s with dispatcher := d } = findRecord s.readout.record s := rfl
  simp only [buildChunk, hf]
  cases s.readout.state <;> cases findRecord s.readout.record s <;> rfl

/-- The choice of a frame does not look at the Dispatcher. -/
theorem chooseFrame_dispatcher (s : State) (d : Dispatcher) :
    chooseFrame { s with dispatcher := d } = { chooseFrame s with dispatcher := d } := by
  have chunk : startChunk { s with dispatcher := d } = { startChunk s with dispatcher := d } := by
    simp only [startChunk, buildChunk_dispatcher]
    cases s.transmit.bulk with
    | some _ => rfl
    | none => cases buildChunk s <;> rfl
  have lower : startLower { s with dispatcher := d } = { startLower s with dispatcher := d } := by
    unfold startLower
    cases hs : s.transmit.suspended with
    | nil => exact chunk
    | cons t rest => rfl
  have outranks : ∀ c, outranksStack c { s with dispatcher := d } = outranksStack c s := fun _ => rfl
  unfold chooseFrame
  cases hu : s.transmit.urgent with
  | cons f rest => simp only [outranks, lower]; split <;> rfl
  | nil =>
    cases hn : s.transmit.normal with
    | cons g rest => simp only [outranks, lower]; split <;> rfl
    | nil => simp only [lower]

/-- The decision on an idle line does not look at the Dispatcher. -/
theorem decideIdle_dispatcher (s : State) (d : Dispatcher) :
    decideIdle { s with dispatcher := d } = { decideIdle s with dispatcher := d } := by
  simp only [decideIdle, chooseFrame_dispatcher]
  split <;> rfl

/-- On a line that sends, or while a reset is awaited, the unit decides nothing (R173, R181). -/
theorem decideIdle_busy (s : State) (h : s.transmit.line ≠ none ∨ s.resetting.awaited ≠ none) : decideIdle s = s := by
  unfold decideIdle
  rcases h with h | h <;> simp [h]

/-- On an idle line the unit chooses (R173). -/
theorem decideIdle_idle (s : State) (hl : s.transmit.line = none) (ha : s.resetting.awaited = none) :
    decideIdle s = chooseFrame s := by
  simp [decideIdle, hl, ha]

/-- A reply that is queued leaves the Dispatcher as it is told, whatever it was. -/
theorem withReply_dispatcher (f : Frame) (d e : Dispatcher) (s : State) :
    withReply f d { s with dispatcher := e } = withReply f d s := by
  have h := decideIdle_dispatcher { s with transmit := { s.transmit with normal := s.transmit.normal ++ [f] } } e
  simp only [withReply]
  rw [h]

theorem heldNotices_withReply (f : Frame) (d : Dispatcher) (s : State) : heldNotices (withReply f d s) = d.held.getD [] := rfl

theorem stopHolding_withReply (f : Frame) (d : Dispatcher) (s : State) :
    stopHolding (withReply f d s) = withReply f { d with held := none } s := rfl

theorem freeDispatcher_withReply (f : Frame) (d : Dispatcher) (s : State) :
    freeDispatcher (withReply f d s) = withReply f { d with state := .free } s := rfl

/-- A queued reply is the reply at the end of the NORMAL queue, and the decision on an idle line. -/
theorem queueReply_eq (r : Request) (status : Status) (data : List Byte) (s : State) :
    queueReply r status data s = withReply (replyFrame r status data) s.dispatcher s := by
  unfold queueReply queueReplyFrame withReply
  rw [← decideIdle_dispatcher]
  rfl

/-! ## Taking an event and carrying out a request -/

/-- An event is taken in the state it finds. -/
theorem takeEvent_finds (event : State → State) {s u : State} (h : Finds s u) : takeEvent event s = conclude (event u) := by
  have hl : s.resetting.held = false := h.1
  rw [← h.2]
  simp [takeEvent, hl]

/-- Nothing is taken while the blocks are held in reset (R221). -/
theorem takeEvent_held (event : State → State) {s : State} (h : s.resetting.held = true) : takeEvent event s = s := by
  simp [takeEvent, h]

/-- The request in execution is carried out when the command stands for it. -/
theorem carryOut_finds (r : Request) (serves : Request → Bool) (run : Request → State → State) {s u : State}
    (h : FindsRequest r s u) (hs : serves r = true) : takeEvent (carryOut serves run) s = conclude (run r u) := by
  rw [takeEvent_finds _ h.1]
  simp [carryOut, h.2, hs]

/-- A refused request that no break cuts: the reply, and nothing else. -/
theorem answerRefused_eq (r : Request) (status : Status) (detail : Byte) (s : State) :
    answerRefused none r { status := status, detail := detail } s = refusedWith r status detail s := by
  simp only [answerRefused, afterReply, queueReply_eq, refusedWith, withReply]
  rfl

/-- A refused request whose reply a link reset meets (R188). -/
theorem answerRefused_cut (pins : PinLevels) (r : Request) (e : Refused) (s : State) :
    answerRefused (some pins) r e s
      = freeDispatcher (linkReset pins (discardHeld (queueReply r e.status [e.detail] s))) := rfl

/-- An accepted request whose effect raises no notice. -/
theorem answerAccepted_quiet (r : Request) (effect : State → State × List Byte) (s t : State) (data : List Byte)
    (h : effect (holdNotices s) = (holdNotices t, data)) : answerAccepted none r effect s = replied r data t := by
  have e : answerAccepted none r effect s = freeDispatcher (offerHeld (queueReply r .ok data (holdNotices t))) := by
    simp only [answerAccepted, h, offerOrCut]
  rw [e, queueReply_eq, offerHeld, heldNotices_withReply, stopHolding_withReply]
  exact withReply_dispatcher _ _ { t.dispatcher with held := some [] } t

/-- An accepted request whose reply a link reset meets: the notices its effect raised go with the reply (R168, R188). -/
theorem answerAccepted_cut (pins : PinLevels) (r : Request) (effect : State → State × List Byte) (s t : State)
    (data : List Byte) (h : effect (holdNotices s) = (t, data)) :
    answerAccepted (some pins) r effect s
      = freeDispatcher (linkReset pins (discardHeld (queueReply r .ok data t))) := by
  unfold answerAccepted
  rw [h]
  rfl

/-- The held notices that are discarded change the marks of the counters, and nothing else (log 26). -/
theorem discardHeld_shape (s : State) :
    ∃ cs, discardHeld s = { s with counters := cs, dispatcher := { s.dispatcher with held := none } } := by
  have all : ∀ (l : List Notice) (t : State),
      (∃ cs, t = { s with counters := cs, dispatcher := { s.dispatcher with held := none } }) →
      ∃ cs, l.foldl (fun t n => markNotice n .reported t) t
        = { s with counters := cs, dispatcher := { s.dispatcher with held := none } } := by
    intro l
    induction l with
    | nil => intro t h; exact h
    | cons n rest ih =>
      rintro _ ⟨cs, rfl⟩
      obtain ⟨cs', e⟩ := markNotice_shape n .reported
        { s with counters := cs, dispatcher := { s.dispatcher with held := none } }
      exact ih _ ⟨cs', e⟩
  exact all _ _ ⟨_, rfl⟩

/-- A break finds the receiver in HUNT: no frame ends (R166). -/
theorem endBrokenFrame_hunt (s : State) (h : s.receiver.state = .hunt) : endBrokenFrame s = s := by
  simp [endBrokenFrame, h]

/-- A break ends the frame being received with a framing error, and the event that this is concludes (R166). -/
theorem endBrokenFrame_eq (s : State) (h : s.receiver.breakMark = false) : endBrokenFrame s = brokenInto s := by
  unfold endBrokenFrame brokenInto receiveCharacter
  cases hs : s.receiver.state <;> simp [h, takeInFrame, takeEscaped, framingError, setReceiver, hunting]

/-- An offer does not look at the Dispatcher. -/
theorem offerNotice_free (n : Notice) (s : State) :
    offerNotice n (freeDispatcher s) = freeDispatcher (offerNotice n s) := by
  have hm : ∀ m, markNotice n m (freeDispatcher s) = freeDispatcher (markNotice n m s) := by cases n <;> intro m <;> rfl
  have hc : ∀ t, countDroppedNotice (freeDispatcher t) = freeDispatcher (countDroppedNotice t) := by
    intro t
    have : (counterOf (freeDispatcher t) .noticeDropped).value = (counterOf t .noticeDropped).value := rfl
    unfold countDroppedNotice
    rw [this]
    split <;> rfl
  have hf : noticeFits (freeDispatcher s) = noticeFits s := rfl
  unfold offerNotice
  rw [hf]
  split
  · rw [hm]; rfl
  · rw [hm, hc]

theorem offered_free (notices : List Notice) (s : State) :
    offered notices (freeDispatcher s) = freeDispatcher (offered notices s) := by
  induction notices generalizing s with
  | nil => rfl
  | cons n rest ih =>
    simp only [offered, List.foldl_cons] at *
    rw [offerNotice_free, ih]

/-- An accepted request: the reply, then the notices that its effect raised, in order (R188). -/
theorem answerAccepted_eq (r : Request) (effect : State → State × List Byte) (s t : State) (data : List Byte)
    (notices : List Notice)
    (h : effect (holdNotices s) = ({ t with dispatcher := { t.dispatcher with held := some notices } }, data)) :
    answerAccepted none r effect s = offered notices (replied r data t) := by
  have e : answerAccepted none r effect s = freeDispatcher (offerHeld
      (queueReply r .ok data { t with dispatcher := { t.dispatcher with held := some notices } })) := by
    simp only [answerAccepted, h, offerOrCut]
  rw [e, queueReply_eq, withReply_dispatcher, offerHeld, heldNotices_withReply, stopHolding_withReply]
  exact (offered_free notices _).symm

end Sys2Proof.Machine
end

