-- ==== Sys2Proof/Laws/Capture.lean ====
section
/-! SUPPORT. What the operations of the Capture Manager and of a delivery can do, said once. -/

namespace Sys2Proof.Machine

/-! ## Openings and decisions -/

/-- A handover changes the stream's sink and ring and gives the older pages back. -/
theorem handOver_eq (number : Nat) (profile : Profile) (k : Fin 16) (s : State) :
    handOver number profile k s
      = { s with
          free := s.free ++ (returnedPages profile k s).map blankPage
          rings := put s.rings k emptyRing
          sinks := put s.sinks k (.capture number) } := rfl

/-- The handovers of an opening change the free list, the rings and the sinks, and make one part a stream. -/
theorem handOverAll_shape (number : Nat) (profile : Profile) (streams : List (Fin 16)) (s : State) :
    ∃ parts free rings sinks, handOverAll number profile streams s
        = (parts, { s with free := free, rings := rings, sinks := sinks })
      ∧ (parts.map fun p => p.stream) = streams := by
  induction streams generalizing s with
  | nil => exact ⟨[], _, _, _, rfl, rfl⟩
  | cons k rest ih =>
    obtain ⟨parts, free, rings, sinks, h, hp⟩ := ih (handOver number profile k s)
    refine ⟨partOf profile k s :: parts, free, rings, sinks, ?_, ?_⟩
    · simp only [handOverAll, h]; rfl
    · simp only [List.map_cons, hp]; rfl

/-- An opening: one record joins the end of the table, its profile names it, and TRIG_OUT is high (R32 to R34). -/
theorem openRecordFor_shape (t : Trigger) (s : State) :
    ∃ record free rings sinks, openRecordFor t s
        = ({ s with
              records := s.records ++ [record]
              nextRecord := numberAfter (freshNumber s)
              openRecord := put s.openRecord t.profile (some (freshNumber s))
              pins := { s.pins with trigOut := some trigOutPulse }
              free := free, rings := rings, sinks := sinks }, .opened (freshNumber s))
      ∧ record.number = freshNumber s ∧ record.profile = t.profile ∧ record.state = .opened
      ∧ record.retriggers = [] := by
  obtain ⟨parts, free, rings, sinks, h, _⟩ := handOverAll_shape (freshNumber s) s.profiles[t.profile]
    (includedStreams s.profiles[t.profile].mask s) s
  have e : ∃ record : CaptureRecord, (openRecordFor t s).1.records = s.records ++ [record]
      ∧ record.number = freshNumber s ∧ record.profile = t.profile ∧ record.state = .opened
      ∧ record.retriggers = [] := by
    simp only [openRecordFor, h]
    exact ⟨_, rfl, rfl, rfl, rfl, rfl⟩
  obtain ⟨record, hr, facts⟩ := e
  refine ⟨record, free, rings, sinks, ?_, facts⟩
  rw [← hr]
  simp only [openRecordFor, h]

/-- A removed record leaves the table, and its pages stand blank at the end of the free list. -/
theorem removeRecord_eq (n : Nat) (s : State) :
    removeRecord n s
      = { s with
          records := s.records.filter fun r => !(r.number == n)
          free := s.free ++ ((s.records.filter fun r => r.number == n).flatMap recordPages).map blankPage } := rfl

/-- A discard removes the record and does what its counter and its notice do. -/
theorem discardRecord_shape (n : Nat) (s : State) :
    ∃ cs q held, discardRecord n s
      = { removeRecord n s with
          counters := cs, transmit := { s.transmit with normal := q }, dispatcher := { s.dispatcher with held := held } } := by
  obtain ⟨cs, q, held, h, _⟩ := countUp_shape .recordDiscarded (removeRecord n s)
  obtain ⟨cs', q', held', h', _⟩ := raiseNotice_shape (.recordDiscarded n) (countUp .recordDiscarded (removeRecord n s))
  exact ⟨cs', q', held', by rw [discardRecord, h', h]; rfl⟩

/-- The decision at a trigger, by cases: a retrigger, a loss, or an opening, with or without a discard before it. -/
theorem decideTrigger_cases (t : Trigger) (s : State) :
    (∃ n, s.openRecord[t.profile] = some n
      ∧ decideTrigger t s = (changeRecord n (retriggered s.profiles[t.profile] t) s, .retriggered n))
    ∨ decideTrigger t s = (countUp .captureLostOverlap s, .lost .overlap)
    ∨ decideTrigger t s = (countUp .captureLostFull s, .lost .full)
    ∨ (s.records.length < recordTotal ∧ decideTrigger t s = openRecordFor t s)
    ∨ ∃ r, discardCandidate s = some r ∧ decideTrigger t s = openRecordFor t (discardRecord r.number s) := by
  unfold decideTrigger
  split
  · next n h => exact .inl ⟨n, h, rfl⟩
  · split
    · exact .inr (.inl rfl)
    · unfold openWithRoom
      split
      · next h => exact .inr (.inr (.inr (.inl ⟨h, rfl⟩)))
      · split
        · exact .inr (.inr (.inl rfl))
        · split
          · next r h => exact .inr (.inr (.inr (.inr ⟨r, h, rfl⟩)))
          · exact .inr (.inr (.inl rfl))

/-- A trigger taken: decided, or LOST (STOPPED); its alarm request joins the end of those on their way. -/
theorem takeTrigger_cases (t : Trigger) (s : State) :
    takeTrigger t s = { s with alarmRequests := s.alarmRequests ++ alarmOf t none }
    ∨ (s.acquisition = .running ∧ t.earlierRun = false
      ∧ takeTrigger t s
        = { (decideTrigger t s).1 with
            alarmRequests := (decideTrigger t s).1.alarmRequests ++ alarmOf t (outcomeRecord (decideTrigger t s).2) }) := by
  unfold takeTrigger
  split
  · next h =>
    simp only [Bool.and_eq_true, decide_eq_true_eq, Bool.not_eq_true'] at h
    exact .inr ⟨h.1, h.2, by simp only [requestAlarm_eq]⟩
  · exact .inl (by rw [requestAlarm_eq]; rfl)

/-! ## Storing and delivering -/

/-- A change of one record's part changes the record table alone. -/
theorem changePart_eq (n : Nat) (k : Fin 16) (f : StreamPart → StreamPart) (s : State) :
    changePart n k f s
      = { s with
          records := changeFirst (fun r => r.number == n)
            (fun r => { r with parts := changeFirst (fun p => p.stream == k) f r.parts }) s.records } := rfl

/-- A post sample: stored on the tail page, stored on a granted page, or the window is cut (R13, R14). -/
theorem captureStore_cases (n : Nat) (k : Fin 16) (x : Sample) (s : State) :
    captureStore n k x s = s
    ∨ (∃ f, captureStore n k x s = changePart n k f s)
    ∨ (∃ f page rest, s.free = page :: rest ∧ captureStore n k x s = changePart n k f { s with free := rest })
    ∨ (s.free = [] ∧ captureStore n k x s = cutWindow n k s) := by
  unfold captureStore
  split
  · exact .inl rfl
  · split
    · exact .inr (.inl ⟨_, rfl⟩)
    · split
      · next page t ht =>
        obtain ⟨rest, hf, _, e⟩ := takePage_some _ _ _ _ ht
        exact .inr (.inr (.inl ⟨_, page, rest, hf, by rw [e]⟩))
      · next ht => exact .inr (.inr (.inr ⟨List.length_eq_zero_iff.mp (Nat.le_zero.mp (takePage_none _ _ ht)), rfl⟩))

/-- A made output changes the stream's filter, and what a counter's cause changes when it saturates. -/
theorem makeOutput_cases (k : Fin 16) (raw : RawSample) (s : State) :
    makeOutput k raw s
      = setFilter k { s.filters[k] with count := 0, index := s.filters[k].index + 1, due := none } s
    ∨ makeOutput k raw s = countUp .filterSaturation
        (setFilter k { s.filters[k] with count := 0, index := s.filters[k].index + 1, due := none } s) := by
  unfold makeOutput
  split
  · exact .inr rfl
  · exact .inl rfl

/-- A stream with no output due: nothing is taken. -/
theorem takeOutput_none (k : Fin 16) (s : State) (h : s.filters[k].due = none) : takeOutput k s = s := by
  simp only [takeOutput, outputDue, h]

/-- A post count that is not reached: nothing is taken. -/
theorem reachPostCount_none (k : Fin 16) (s : State) (h : postCountDue k s = none) : reachPostCount k s = s := by
  simp only [reachPostCount, h]

/-- A post count that is not reached is no event: nothing follows. -/
theorem settlePostCount_none (k : Fin 16) (s : State) (h : postCountDue k s = none) : settlePostCount k s = s := by
  simp only [settlePostCount, h, Option.isSome_none, Bool.false_eq_true, if_false]

/-- A post count that is reached is an event of its own (log 12). -/
theorem settlePostCount_some (k : Fin 16) (n : Nat) (s : State) (h : postCountDue k s = some n) :
    settlePostCount k s = conclude (reachPostCount k s) := by
  simp only [settlePostCount, h, Option.isSome_some, if_true]

/-- A stream with no output due: no other event waits for one. -/
theorem takeDueOutput_none (k : Fin 16) (s : State) (h : s.filters[k].due = none) : takeDueOutput k s = s := by
  simp only [takeDueOutput, outputDue, h, Option.isSome_none, Bool.false_eq_true, if_false]

/-- With no output due, none is delivered ahead of a Stop. -/
theorem deliverAll_none (s : State) (h : ∀ k : Fin 16, s.filters[k].due = none) : deliverAll s = s := by
  have all : ∀ l : List (Fin 16), l.foldl (fun t k => takeDueOutput k t) s = s := by
    intro l
    induction l with
    | nil => rfl
    | cons k rest ih => rw [List.foldl_cons, takeDueOutput_none k s (h k), ih]
  exact all allStreams

/-- With no output due, none is delivered at the arrival at IDLE. -/
theorem deliverOutstanding_none (s : State) (h : ∀ k : Fin 16, s.filters[k].due = none) : deliverOutstanding s = s := by
  have all : ∀ l : List (Fin 16), l.foldl (fun t k => deliverDue k t) s = s := by
    intro l
    induction l with
    | nil => rfl
    | cons k rest ih =>
      have hk : deliverDue k s = s := by
        simp only [deliverDue, outputDue, h k, Option.isSome_none, Bool.false_eq_true, if_false]
      rw [List.foldl_cons, hk, ih]
  exact all allStreams

/-! ## The Transmit Unit -/

/-- The move of the oldest PENDING entry: into a free URGENT place with the drop count, or nothing (R136, R137). -/
theorem moveOldestPending_cases (s : State) :
    moveOldestPending s = s
    ∨ ∃ e, s.alarms.find? isPending = some e ∧ s.transmit.urgent.length < urgentTotal
      ∧ moveOldestPending s
        = { s with
            transmit := { s.transmit with urgent := s.transmit.urgent ++ [alarmReportFrame e s.dropCount] }
            dropCount := 0
            alarms := changeFirst isPending (fun x => { x with state := .queued }) s.alarms } := by
  unfold moveOldestPending
  split
  · next h =>
    split
    · next e he => exact .inr ⟨e, he, h, rfl⟩
    · exact .inl rfl
  · exact .inl rfl

/-- The choice of a frame changes the Transmit Unit and, with a new chunk, the readout. -/
theorem chooseFrame_shape (s : State) :
    ∃ transmit readout, chooseFrame s = { s with transmit := transmit, readout := readout } := by
  have lower : ∃ transmit readout, startLower s = { s with transmit := transmit, readout := readout } := by
    unfold startLower
    split
    · exact ⟨_, _, rfl⟩
    · unfold startChunk
      split
      · split
        · next chunk t h =>
          unfold buildChunk at h
          split at h
          · simp only [Option.some.injEq, Prod.mk.injEq] at h
            exact ⟨_, _, by rw [← h.2]; rfl⟩
          · cases h
        · exact ⟨_, _, rfl⟩
      · exact ⟨_, _, rfl⟩
  unfold chooseFrame
  split
  · split
    · exact ⟨_, _, rfl⟩
    · exact lower
  · split
    · exact ⟨_, _, rfl⟩
    · exact lower
  · exact lower

/-- What follows an event changes the alarm list with its drop count, the Transmit Unit, the readout, the inbound queue and
the Dispatcher, and nothing else (R137, R173, R183). -/
theorem conclude_shape (s : State) :
    ∃ alarms drops transmit readout inbound dispatcher, conclude s
      = { s with alarms := alarms, dropCount := drops, transmit := transmit, readout := readout, inbound := inbound,
                 dispatcher := dispatcher } := by
  have move : ∀ t : State, ∃ alarms drops transmit, movePending t
      = { t with alarms := alarms, dropCount := drops, transmit := transmit } := by
    intro t
    have steps : ∀ (n : Nat) (t : State), ∃ alarms drops transmit, moveOldestPending^[n] t
        = { t with alarms := alarms, dropCount := drops, transmit := transmit } := by
      intro n
      induction n with
      | zero => exact fun t => ⟨_, _, _, rfl⟩
      | succ n ih =>
        intro t
        obtain ⟨alarms, drops, transmit, h⟩ := ih (moveOldestPending t)
        rw [Function.iterate_succ_apply, h]
        obtain hm | ⟨e, -, -, hm⟩ := moveOldestPending_cases t <;> rw [hm] <;> exact ⟨_, _, _, rfl⟩
    exact steps 4 t
  have choose : ∀ t : State, ∃ transmit readout, decideIdle t = { t with transmit := transmit, readout := readout } := by
    intro t
    unfold decideIdle
    split
    · exact chooseFrame_shape t
    · exact ⟨_, _, rfl⟩
  have take : ∀ t : State, ∃ inbound dispatcher, takeRequest t = { t with inbound := inbound, dispatcher := dispatcher } := by
    intro t
    unfold takeRequest
    split
    · split <;> exact ⟨_, _, rfl⟩
    · exact ⟨_, _, rfl⟩
  obtain ⟨a, d, t, h₁⟩ := move s
  obtain ⟨t', ro, h₂⟩ := choose (movePending s)
  obtain ⟨a', d', t'', h₃⟩ := move (decideIdle (movePending s))
  obtain ⟨i, x, h₄⟩ := take (movePending (decideIdle (movePending s)))
  exact ⟨a', d', t'', ro, i, x, by rw [conclude, h₄, h₃, h₂, h₁]⟩

/-! ## The triggers ahead of a delivery and the outputs ahead of an arrival at IDLE -/

/-- What neither the taking of a trigger nor what follows it changes. -/
abbrev KeepsSettings (s t : State) : Prop :=
  t.filters = s.filters ∧ t.streams = s.streams ∧ t.coefficients = s.coefficients ∧ t.acquisition = s.acquisition
    ∧ t.clock = s.clock ∧ t.watches = s.watches ∧ t.profiles = s.profiles

/-- One after the other. -/
theorem keepsSettings_trans {s t u : State} (a : KeepsSettings s t) (b : KeepsSettings t u) : KeepsSettings s u :=
  ⟨b.1.trans a.1, b.2.1.trans a.2.1, b.2.2.1.trans a.2.2.1, b.2.2.2.1.trans a.2.2.2.1,
    b.2.2.2.2.1.trans a.2.2.2.2.1, b.2.2.2.2.2.1.trans a.2.2.2.2.2.1, b.2.2.2.2.2.2.trans a.2.2.2.2.2.2⟩

/-- What follows an event leaves the settings alone. -/
theorem conclude_keepsSettings (s : State) : KeepsSettings s (conclude s) := by
  obtain ⟨_, _, _, _, _, _, h⟩ := conclude_shape s
  rw [h]
  exact ⟨rfl, rfl, rfl, rfl, rfl, rfl, rfl⟩

/-- An opening leaves the settings alone (R32 to R34). -/
theorem openRecordFor_keepsSettings (t : Trigger) (s : State) : KeepsSettings s (openRecordFor t s).1 := by
  obtain ⟨_, _, _, _, h, -⟩ := openRecordFor_shape t s
  rw [h]
  exact ⟨rfl, rfl, rfl, rfl, rfl, rfl, rfl⟩

/-- The rise of a counter leaves the settings alone (R147, R148). -/
theorem countUp_keepsSettings (id : CounterId) (s : State) : KeepsSettings s (countUp id s) := by
  obtain ⟨_, _, _, h, -⟩ := countUp_shape id s
  rw [h]
  exact ⟨rfl, rfl, rfl, rfl, rfl, rfl, rfl⟩

/-- A discard leaves the settings alone (R31). -/
theorem discardRecord_keepsSettings (n : Nat) (s : State) : KeepsSettings s (discardRecord n s) := by
  obtain ⟨_, _, _, h⟩ := discardRecord_shape n s
  rw [h]
  exact ⟨rfl, rfl, rfl, rfl, rfl, rfl, rfl⟩

/-- The taking of a trigger leaves the settings alone (R24 to R34). -/
theorem takeTrigger_keepsSettings (t : Trigger) (s : State) : KeepsSettings s (takeTrigger t s) := by
  obtain h | ⟨-, -, h⟩ := takeTrigger_cases t s <;> rw [h]
  · exact ⟨rfl, rfl, rfl, rfl, rfl, rfl, rfl⟩
  · have decided : KeepsSettings s (decideTrigger t s).1 := by
      obtain ⟨n, -, d⟩ | d | d | ⟨-, d⟩ | ⟨r, -, d⟩ := decideTrigger_cases t s <;> rw [d]
      · exact ⟨rfl, rfl, rfl, rfl, rfl, rfl, rfl⟩
      · exact countUp_keepsSettings _ s
      · exact countUp_keepsSettings _ s
      · exact openRecordFor_keepsSettings t s
      · exact keepsSettings_trans (discardRecord_keepsSettings r.number s) (openRecordFor_keepsSettings t _)
    exact keepsSettings_trans decided ⟨rfl, rfl, rfl, rfl, rfl, rfl, rfl⟩

/-- The triggers ahead of a delivery leave the settings alone (R75, R84). -/
theorem takeStreamTriggers_keepsSettings (k : Fin 16) (s : State) : KeepsSettings s (takeStreamTriggers k s) := by
  have all : ∀ (l : List Trigger) (u : State),
      KeepsSettings u (l.foldl (fun v x => conclude (takeTrigger x v)) u) := by
    intro l
    induction l with
    | nil => exact fun u => ⟨rfl, rfl, rfl, rfl, rfl, rfl, rfl⟩
    | cons x rest ih =>
      intro u
      rw [List.foldl_cons]
      exact keepsSettings_trans
        (keepsSettings_trans (takeTrigger_keepsSettings x u) (conclude_keepsSettings (takeTrigger x u)))
        (ih (conclude (takeTrigger x u)))
  exact keepsSettings_trans ⟨rfl, rfl, rfl, rfl, rfl, rfl, rfl⟩ (all _ _)

/-- With no trigger of the stream's watches on its way, none is taken ahead of its delivery. -/
theorem takeStreamTriggers_none (k : Fin 16) (s : State) (h : ∀ t ∈ s.triggers, ofStream k t = false) :
    takeStreamTriggers k s = s := by
  have none_taken : s.triggers.filter (ofStream k) = [] := by
    simp only [List.filter_eq_nil_iff]
    intro t ht
    simp [h t ht]
  have all_stay : (s.triggers.filter fun t => !ofStream k t) = s.triggers := by
    simp only [List.filter_eq_self]
    intro t ht
    simp [h t ht]
  simp only [takeStreamTriggers, none_taken, all_stay, List.foldl_nil]

/-- The outputs taken ahead of a Stop that reaches IDLE, as the statements spell them (log 14). -/
theorem deliverAll_eq (s : State) : deliverAll s = outputsTaken s := by
  simp only [deliverAll, outputsTaken, takeDueOutput, outputDue, allStreams]
  congr 1
  funext v k
  simp [Option.isSome_iff_ne_none]

/-- The outputs delivered at the end of a drain, as the statements spell them (log 14). -/
theorem deliverOutstanding_eq (s : State) : deliverOutstanding s = outstandingDelivered s := by
  simp only [deliverOutstanding, outstandingDelivered, deliverDue, outputDue, allStreams]
  congr 1
  funext v k
  simp [Option.isSome_iff_ne_none]

end Sys2Proof.Machine
end

