-- ==== Sys2Proof/WellFormed.lean ====
section
/-! DEFINITION. Which commands are well formed: the operands that the outside world can present. -/

namespace Sys2Proof

/-- The largest voltage an analog input may see: VDDA at its maximum of 5.25 V (12.5, operating limits), in microvolts. -/
def maxInputMicrovolts : Nat := 5250000

/-- A conversion's input level lies in 0 V to VDDA (12.5). Every other operand is in range by its type. -/
def Instr.wellFormed : Instr → Bool
  | .conversionComplete level => decide (level ≤ maxInputMicrovolts)
  | _ => true

end Sys2Proof
end

