-- ==== Sys2Proof/Tests/Slice0.lean ====
section
/-! SUPPORT. Tests: expected results come from the manual's tables and worked examples, named in each docstring; then, for
each statement with hypotheses, a state and operands that meet them, clause by clause. -/

namespace Sys2Proof.Tests

open Sys2Proof Sys2Proof.Machine

-- One theorem at a time: many kernel evaluations side by side take more memory than a check allows.
set_option Elab.async false

/-! ## Small states -/

/-- The state a command answers. -/
def after (c : Instr) (s : State) : State :=
  match exec c s with
  | .next t => t
  | .fault _ => s
  | .refused _ => s

/-- Straps at 2,000,000 bit/s, both inputs high. -/
def pins : PinLevels := { rate1 := .high, rate0 := .high, convIn := .high, trigIn := .high }

/-- A break taken by itself, and one taken right after the reply of the request in execution. -/
def broken : LineBreak := { pins := pins, moment := .alone }

def brokenAfterReply : LineBreak := { pins := pins, moment := .afterReply }

/-- A request of a type, with tag 7. -/
def request (type : Byte) (payload : List Byte) : Request := { type := type, tag := 7, payload := payload }

/-- A request in execution. -/
def executing (r : Request) (s : State) : State := { s with dispatcher := { s.dispatcher with state := .executing r } }

/-- Two streams in use: stream 0 FULL in bypass, stream 1 PACKED with set 0 and D = 2; profile 0 takes both. -/
def ready : State :=
  { State.reset with
    scan := [{ input := 0, polarity := .normal, gain := 0, settle := 0 },
             { input := 1, polarity := .inverted, gain := 2, settle := 1 }]
    streams := put (put State.reset.streams 0 { resetStream with enabled := true, history := 2 }) 1
      { enabled := true, filter := .coefficients 0, decimation := 2, history := 1, format := .packed }
    coefficients := put State.reset.coefficients 0 { shift := 11, coefficients := [8192, 8192] }
    profiles := put State.reset.profiles 0 { mask := 3, preCount := 1, postCount := 5, extend := true } }

/-- RUNNING under PACED, with both sinks at their rings. -/
def running : State :=
  { ready with
    acquisition := .running
    sinks := put (put State.reset.sinks 0 .ring) 1 .ring
    pacer := .running (microseconds 1000) 10
    clock := { timebase := 1000000, phase := 0 } }

/-- A stream part that collects, on one page with 3 post samples. -/
def part (k : Fin 16) : StreamPart :=
  { stream := k, format := .full, input := 0, polarity := .normal, gain := 0, decimation := 1, starved := false,
    leadTotal := 0, preCount := 0, postCount := 3, firstIndex := 0,
    run := { pages := [{ number := 190, content := [1, 0, 2, 0, 3, 0] }], fill := 3, pendingBlock := [] },
    collecting := true, remaining := 2 }

/-- A record of profile 0 in a state, with no part. -/
def record (n : Nat) (state : RecordState) : CaptureRecord :=
  { number := n, profile := 0, state := state, flags := noFlags, source := .external, time := 0, sample := none,
    closeTime := none, requestedPre := 1, requestedPost := 5, parts := [], retriggers := [] }

/-- RUNNING with record 1 OPEN: stream 0 collects for it. -/
def collecting : State :=
  { running with
    free := running.free.take 20
    records := [{ record 1 .opened with parts := [part 0] }]
    nextRecord := 2
    openRecord := put State.reset.openRecord 0 (some 1)
    sinks := put running.sinks 0 (.capture 1) }

/-- The same with its post count reached. -/
def reached : State :=
  { collecting with records := [{ record 1 .opened with parts := [{ part 0 with remaining := 0 }] }] }

/-- A SEALED record with READ. -/
def readRecord (n : Nat) : CaptureRecord := { record n .closed with flags := { noFlags with read := true } }

/-- Record 1 SEALED and record 2 READING, its readout ACTIVE at offset 8. -/
def reading : State :=
  { State.reset with
    records := [record 1 .closed, record 2 .reading]
    nextRecord := 3
    readout := { state := .active, record := 2, tag := 9, length := 32, offset := 8 } }

/-- A full record table; the second record has READ. -/
def full : State :=
  { running with
    records := record 1 .closed :: readRecord 2 :: (List.range 30).map fun i => record (i + 3) .closed
    nextRecord := 33 }

/-- A trigger of profile 0 on its way. -/
def trigger : Trigger :=
  { profile := 0, source := .external, time := 5, sample := none, alarm := true, earlierRun := false }

/-- A NORMAL frame being sent, with some characters left. -/
def sending (kind : FrameKind) (unsent : List Byte) (s : State) : State :=
  { s with transmit := { s.transmit with
      sending := some { frame := { kind := kind, type := 0x40, tag := 0, payload := [0] }, unsent := unsent }
      line := some 0x40
      lineTime := 25000 } }

/-- A watch ARMED on stream 0: ABOVE 500, hysteresis 100, q = 3, holdoff 4, profile 1, alarm on (section 4.6). -/
def watch : Watch :=
  { definition := { resetWatchDefinition with
      enabled := true, high := 500, hysteresis := 100, qualify := 3, holdoff := 4, profile := some 1, alarm := true }
    state := .armed, qualifyCount := 0, holdoffCount := 0, previous := none, firing := none }

/-- A filtered sample of stream 0. -/
def sample (value : Int) : FilteredSample := { stream := 0, value := BitVec.ofInt 16 value, index := 5, time := 77 }

/-- An alarm entry in a state. -/
def alarm (id : Byte) (sends : Nat) (state : AlarmState) : AlarmEntry :=
  { id := id, source := .watch 0, time := 9, value := some 1, record := none, sendCount := sends, state := state }

/-! ## Well-formedness -/

/-- An input level above the supply range is refused (R224). -/
theorem test_wellFormed_refuses_level : Instr.wellFormed (.conversionComplete 5250001) = false := by decide +kernel

theorem test_wellFormed_takes_level : Instr.wellFormed (.conversionComplete 5250000) = true := by decide +kernel

/-! ## Worked examples of the manual -/

/-- R157: the check value; section 9.6: the CRC and the characters of the frame. -/
theorem test_crc : crcOf [0x31, 0x32, 0x33, 0x34, 0x35, 0x36, 0x37, 0x38, 0x39] = 0x29B1
    ∧ crcOf [0x38, 0xE3, 0x01, 0xE1] = 0x0AB5 := by decide +kernel

theorem test_frame : lineCharacters 0x38 0xE3 [0xE1] = [0xE1, 0x38, 0xE4, 0xC3, 0x01, 0xE4, 0xC1, 0xB5, 0x0A] := by decide +kernel

/-- Section 3.1: packing one block, s = 4, and the block stopped after 5 samples, s = 3. -/
theorem test_packing :
    encodeBlock ([1000, 612, 180, -45, -380, -711, -1025, -890, -433, 12, 397, 805, 960, 700, 240, -3].map
        (BitVec.ofInt 16))
      = 4 :: [62, 38, 11, -3, -24, -45, -65, -56, -28, 0, 24, 50, 60, 43, 15, -1].map (BitVec.ofInt 8)
    ∧ encodeBlock ([1000, 612, 180, -45, -380].map (BitVec.ofInt 16))
      = 3 :: ([125, 76, 22, -6, -48].map (BitVec.ofInt 8) ++ List.replicate 11 0) := by decide

/-- Chapter 1, handover of a FULL stream and of a PACKED stream. -/
theorem test_handover :
    pagesTaken .full 300 50 = 3 ∧ leadingSkip .full 300 50 = 6
    ∧ pagesTaken .packed 100 37 = 2 ∧ leadingSkip .packed 100 37 = 177
    ∧ pagesTaken .packed 277 37 = 2 ∧ leadingSkip .packed 277 37 = 0
    ∧ pagesTaken .packed 0 37 = 0 ∧ leadingSkip .packed 0 37 = 0 := by decide

/-- The PACKED part of sections 3.2 and 12.3. -/
def packedPart : StreamPart :=
  { part 5 with
    format := .packed, input := 3, gain := 1, decimation := 2, leadTotal := 177, preCount := 100, postCount := 150,
    firstIndex := 5000 }

/-- Section 12.3: the bytes of one stream section; section 3.2: the data length and the image length. -/
theorem test_section : streamSection packedPart
      = [0x05, 0x01, 0x03, 0x02, 0x02, 0x01, 0x64, 0x00, 0x96, 0x00, 0x88, 0x13, 0x00, 0x00, 0x10, 0x01]
    ∧ dataLength packedPart = 272 := by decide

theorem test_image_length :
    imageLength { record 1 .closed with
        parts := [{ part 2 with preCount := 300, postCount := 200 }, packedPart]
        retriggers := List.replicate 2 { source := .external, time := 0, extended := false } } = 1352 := by decide

/-- Section 6.6: outputs 816 and 1680; section 6.7: floor, and saturation. -/
theorem test_filter :
    shiftedOutput { shift := 11, coefficients := [8192, 8192, 8192, 8192] } [104, 100, 0, 0] = 816
    ∧ shiftedOutput { shift := 11, coefficients := [8192, 8192, 8192, 8192] } [120, 96, 104, 100] = 1680
    ∧ shiftedOutput { shift := 11, coefficients := [10923, 10923, 10923] } [7, 7, 7] = 112
    ∧ shiftedOutput { shift := 11, coefficients := [10923, 10923, 10923] } [-7, -7, -7] = -113 := by decide

theorem test_saturation :
    saturated (shiftedOutput { shift := 9, coefficients := [32767] } [600]) = 32767
    ∧ saturates (shiftedOutput { shift := 9, coefficients := [32767] } [-600]) = true
    ∧ saturated (shiftedOutput { shift := 9, coefficients := [32767] } [500]) = 31999 := by decide

/-- Section 4.6: a sample that fails returns a QUALIFYING watch to ARMED; the third in a row makes it due to fire; 450
does not re-arm it and 390 does. -/
theorem test_watch_walk :
    (judge (sample 520) watch).state = .qualifying
    ∧ (judge (sample 480) { watch with state := .qualifying, qualifyCount := 1 }).state = .armed
    ∧ (judge (sample 700) { watch with state := .qualifying, qualifyCount := 2 }).firing = some (sample 700)
    ∧ (judge (sample 450) { watch with state := .rearmWait }).state = .rearmWait
    ∧ (judge (sample 390) { watch with state := .rearmWait }).state = .armed := by decide

/-- Section 5.6: the round time of the example's slots, and the inverted sample of raw code 1100; inverted code 0 gives
2047 (R93). -/
theorem test_round :
    roundMicroseconds { State.reset with
        streams := State.reset.streams.map fun x => { x with enabled := true }
        scan := [{ input := 0, polarity := .normal, gain := 0, settle := 0 },
                 { input := 1, polarity := .normal, gain := 0, settle := 1 },
                 { input := 1, polarity := .inverted, gain := 2, settle := 0 },
                 { input := 7, polarity := .normal, gain := 1, settle := 2 }] } = 22
    ∧ signedSample .inverted 1100 = 948 ∧ signedSample .inverted 0 = 2047 := by decide +kernel

/-- R224: midpoint, one step up at gain 2, and the clip at the top of the supply. -/
theorem test_raw_code : rawCode 0 2500000 true = 2048 ∧ rawCode 1 2501000 true = 2050 ∧ rawCode 3 5000000 true = 4095 := by
  decide

/-! ## One step of each command -/

/-- R153: RATE1 RATE0 = 11 is rate 3; R146: RESTARTED (POWER) goes first. -/
theorem test_powerOnReset : (after (.powerOnReset pins) running).transmit.rate = 3
    ∧ ((after (.powerOnReset pins) running).transmit.sending.map fun t => t.frame.payload) = some [0x00] := by
  decide +kernel

/-- R221: with no frame in transmission the blocks are reset at once. -/
theorem test_pinReset : (after .pinReset running).resetting.held = true ∧ (after .pinReset running).acquisition = .idle := by
  decide +kernel

/-- R181: with a frame in transmission ABORT comes first. -/
theorem test_pinReset_aborts : (after .pinReset (sending .reply [1, 2] running)).transmit.tail = [0xE5] := by decide +kernel

/-- R222: the level at the end of the reset is the accepted one; R212: cause 01h. -/
theorem test_pinResetEnd : (after (.pinResetEnd pins) (after .pinReset running)).pins.convIn = .high
    ∧ ((after (.pinResetEnd pins) (after .pinReset running)).transmit.sending.map fun t => t.frame.payload)
      = some [0x01] := by decide +kernel

/-- R167: RESTARTED (LINK) first; the readout ends, its record is SEALED again (R67). -/
theorem test_lineBreak : (after (.lineBreak broken) reading).receiver.breakMark = true
    ∧ ((after (.lineBreak broken) reading).records.map fun r => r.state) = [.closed, .closed] := by decide +kernel

theorem test_lineBreakEnd :
    (after .lineBreakEnd (after (.lineBreak broken) reading)).receiver.breakMark = false := by decide +kernel

/-- R166: a break inside a frame ends it with one framing error first; in HUNT there is none. R188: the reply to Cancel
Readout is discarded and the READOUT_ENDED (44h) that followed it with it; the idle line had begun the reply (R173), so that
ABORT goes first and RESTARTED (40h) and FAULT (42h) wait for it (R180). -/
theorem test_lineBreak_moments :
    (counterOf (after (.lineBreak broken) (after (.rxCharacter (.good 0xE1)) State.reset)) .rxFraming).value = 1
    ∧ (counterOf (after (.lineBreak broken) State.reset) .rxFraming).value = 0
    ∧ (let t := after (.lineBreak brokenAfterReply) (executing (request 0x32 []) reading)
      t.readout.state = .idle ∧ (counterOf t .replyDiscarded).value = 1 ∧ t.dispatcher.state = .free
        ∧ t.transmit.line = some 0xE1 ∧ t.transmit.tail = [0xE5]
        ∧ (t.transmit.normal.map fun f => f.type) = [0x40, 0x42]) := by decide +kernel

/-- R39, R42, R173: CAPTURE_DONE of a post count that is due is on the idle line before the next event is taken, so that a
pin reset and a break find a frame in transmission and send ABORT (R180, R181). -/
theorem test_idleLine_begins_at_once :
    (after .pinReset reached).resetting.awaited = some .pin ∧ (after .pinReset reached).resetting.held = false
    ∧ (after .pinReset reached).transmit.tail = [0xE5]
    ∧ (after (.lineBreak broken) reached).transmit.line = some 0xE1
    ∧ (after (.lineBreak broken) reached).transmit.tail = [0xE5] := by decide +kernel

/-- R173: that CAPTURE_DONE (41h) is begun before the report of an alarm requested after it. -/
theorem test_idleLine_begins_before_alarm :
    let t := after (.alarmRequest 0)
      { reached with alarmRequests := [{ source := .force, time := 4, value := none, record := none }] }
    (t.transmit.sending.map fun x => x.frame.type) = some 0x41 ∧ (t.transmit.urgent.map fun f => f.type) = [0x50] := by
  decide +kernel

/-- Section 9.6: the request of the example reaches the queue and is taken at once. -/
theorem test_rxCharacter :
    ((lineCharacters 0x38 0xE3 [0xE1]).foldl (fun t b => after (.rxCharacter (.good b)) t) State.reset).dispatcher.state
      = .executing { type := 0x38, tag := 0xE3, payload := [0xE1] } := by decide +kernel

/-- R153: a character whose start bit fell while RESET was low is not taken, inside a frame and outside. -/
theorem test_rxCharacter_startedInReset :
    after (.rxCharacter .startedInReset) (after (.rxCharacter (.good 0xE1)) State.reset)
      = after (.rxCharacter (.good 0xE1)) State.reset := by decide +kernel

/-- R153: 4Bh = 01001011b goes out as 0, then 1 1 0 1 0 0 1 0, then 1; R223: an idle line is high. -/
theorem test_txd : lineBits 0x4B = [.low, .high, .high, .low, .high, .low, .low, .high, .low, .high]
    ∧ txdLevel State.reset = .high
    ∧ txdLevel { State.reset with transmit := { (resetTransmit 2) with line := some 0x4B, lineTime := 3125 } } = .low
    ∧ txdLevel { State.reset with transmit := { (resetTransmit 2) with line := some 0x4B, lineTime := 1 } } = .high := by
  decide +kernel

/-- R163. -/
theorem test_interCharacterTimeout :
    (counterOf (after .interCharacterTimeout (after (.rxCharacter (.good 0xE1)) State.reset)) .rxTimeout).value = 1 := by
  decide +kernel

/-- R175: SUSPEND for a pending frame of a higher class; not after an ESCAPE. -/
theorem test_txCharacterBoundary :
    (after (.txCharacterBoundary pins)
      { sending .chunk [1] State.reset with
        transmit := { (sending .chunk [1] State.reset).transmit with
          normal := [noticeFrame (.restarted .pin)] } }).transmit.line = some 0xE2
    ∧ (after (.txCharacterBoundary pins)
      { sending .chunk [0xC1] State.reset with
        transmit := { (sending .chunk [0xC1] State.reset).transmit with
          line := some 0xE4, normal := [noticeFrame (.restarted .pin)] } }).transmit.line = some 0xC1 := by decide +kernel

/-- R98: the next expiry is one period after this one. -/
theorem test_pacerExpiry : (after .pacerExpiry running).pacer = .running (microseconds 1000) (microseconds 1000)
    ∧ (after .pacerExpiry running).round = .inRound 1000000 0 (microseconds 4) := by decide +kernel

/-- R97, R99: an edge during a round counts an overrun. -/
theorem test_convInEdge :
    (counterOf (after (.convInEdge .rising)
      { running with settings := { resetSettings with source := .external }, round := .inRound 3 0 100 })
      .roundOverrun).value = 1 := by decide +kernel

/-- R93, R96: 2.6 V is raw code 2148; the next slot takes 6 us and the sample carries the start of its round. -/
theorem test_conversionComplete :
    (after (.conversionComplete 2600000) { running with round := .inRound 3 0 100 }).filters[0].due
      = some { value := 100, start := 3 }
    ∧ (after (.conversionComplete 2600000) { running with round := .inRound 3 0 100 }).round
      = .inRound 3 1 (microseconds 6) := by decide +kernel

/-- R116: a bypass output is 16 x; it is stored in the ring (R10). -/
theorem test_decimationOutput :
    (after (.decimationOutput 0)
      { running with filters := put running.filters 0 { resetFilter with count := 1, due := some { value := 100, start := 3 } } }).rings[0].run.pages
      = [{ number := 0, content := [0x40, 0x06] }] := by decide +kernel

/-- R42: the record is SEALED at the Timebase value. -/
theorem test_postCountReached :
    ((after (.postCountReached 0) reached).records.map fun r => (r.state, r.closeTime)) = [(.closed, some 1000000)]
    ∧ (after (.postCountReached 0) reached).openRecord[0] = none := by decide +kernel

/-- R75: the firing sends its trigger and the watch is in HOLDOFF with count 4. -/
theorem test_watchFire :
    let t := after (.watchFire 2) { running with watches := put running.watches 2 { watch with firing := some (sample 700) } }
    t.watches[2].state = .holdoff ∧ t.watches[2].holdoffCount = 4 ∧ (t.triggers.map fun x => x.time) = [77] := by
  decide +kernel

/-- R77. -/
theorem test_watchHoldoffEnd :
    (after (.watchHoldoffEnd 2) { running with watches := put running.watches 2 { watch with state := .holdoff } }).watches[2].state
      = .rearmWait := by decide +kernel

/-- The external trigger ARMED on rising edges, with profile 0. -/
def armed : State :=
  { running with external :=
      { definition := { enabled := true, edge := .rising, profile := some 0, alarm := false, holdoff := 50 },
        state := .armed } }

/-- R86, R87. -/
theorem test_trigInEdge :
    (after (.trigInEdge .rising) armed).external.state = .holdoff (microseconds 50)
    ∧ ((after (.trigInEdge .rising) armed).triggers.map fun t => t.time) = [1000000] := by decide +kernel

theorem test_externalHoldoffExpiry :
    (after .externalHoldoffExpiry (after (.trigInEdge .rising) armed)).external.state = .armed := by decide +kernel

/-- R32 to R34: record 1 opens, both streams collect for it and TRIG_OUT is high. -/
theorem test_trigger :
    let t := after (.trigger 0) { running with triggers := [trigger] }
    (t.records.map fun r => (r.number, r.parts.map fun p => p.stream)) = [(1, [0, 1])]
    ∧ t.sinks[1] = .capture 1 ∧ t.pins.trigOut = some (microseconds 10) := by decide +kernel

/-- R27, R28: a retrigger of an OPEN record extends its collecting part to Q. -/
theorem test_trigger_retriggers :
    ((after (.trigger 0) { collecting with triggers := [trigger] }).records.map fun r =>
      (r.retriggers.length, r.flags.extended, r.parts.map fun p => p.remaining)) = [(1, true, [5])] := by decide +kernel

theorem test_trigOutPulseEnd :
    (after .trigOutPulseEnd (after (.trigger 0) { running with triggers := [trigger] })).pins.trigOut = none := by
  decide +kernel

/-- R135, R137: id 0 is given, and the entry's report goes straight to the line. -/
theorem test_alarmRequest :
    let t := after (.alarmRequest 0)
      { running with alarmRequests := [{ source := .force, time := 4, value := none, record := none }] }
    (t.alarms.map fun e => (e.id, e.state)) = [(0, .queued)] ∧ t.nextAlarm = 1 := by decide +kernel

/-- R139: sent three times without an acknowledgement, the entry is given up. -/
theorem test_acknowledgementTimerExpiry :
    let t := after (.acknowledgementTimerExpiry 5) { running with alarms := [alarm 5 3 (.waiting 7)] }
    t.alarms = [] ∧ (counterOf t .alarmUndelivered).value = 1 := by decide +kernel

/-! ## One step of each request: the payload of its reply, or what it changed -/

/-- The last frame of the NORMAL queue or the frame that has just been started: what a request is answered with. -/
def replyTo (c : Instr) (r : Request) (s : State) : Option (List Byte) :=
  (after c (executing r s)).transmit.sending.map fun t => t.frame.payload

/-- R189. -/
theorem test_identify : replyTo .identify (request 0x01 []) running
    = some [0x00, 0x5C, 0x0A, 0x16, 0x04, 0x01, 8, 16, 4, 32, 192, 32, 8, 8] := by decide +kernel

/-- R190: 00h status, RUNNING, 192 free pages, Timebase 1,000,000 = 0F4240h. -/
theorem test_getStatus : replyTo .getStatus (request 0x02 []) running
    = some [0x00, 0x01, 192, 0, 0, 0, 0, 0, 0, 0, 0, 0x40, 0x42, 0x0F, 0, 0, 0] := by decide +kernel

/-- R165, R190: of three requests waiting, two are left behind the one that is taken; a frame that arrives later is not
counted. -/
theorem test_getStatus_inbound_fill :
    let t := takeRequest { running with inbound := List.replicate 3 (request 0x02 []) }
    ((statusData (after (.identify) t)).getD 7 9, t.inbound.length) = (2, 2)
    ∧ (statusData (offerRequest (request 0x01 []) t)).getD 7 9 = 2 := by decide +kernel

/-- R193: 34 bytes of data and the status. -/
theorem test_readCounters : (replyTo .readCounters (request 0x03 [0]) running).map (fun p => p.length) = some 35 := by
  decide +kernel

/-- R151. -/
theorem test_readCountersClear :
    (counterOf (after .readCountersClear (executing (request 0x03 [1])
      { running with counters := Vector.replicate 16 { value := 9, mark := .reported } })) .rxCrc)
      = { value := 0, mark := .clear } := by decide +kernel

/-- R105, R192. -/
theorem test_setTime :
    (after .setTime (executing (request 0x04 [1, 2, 0, 0, 0, 0x80]) running)).clock.timebase = 0x800000000201 := by
  decide +kernel

/-- R191. -/
theorem test_restart : (after .restart (executing (request 0x05 []) running)).dispatcher.state = .restarting := by
  decide +kernel

/-- R194: one slot; and WRONG_STATE, detail FFh, while RUNNING. -/
theorem test_configureScan :
    (after .configureScan (executing (request 0x10 [1, 7, 1, 3, 2]) State.reset)).scan
      = [{ input := 7, polarity := .inverted, gain := 3, settle := 2 }]
    ∧ replyTo .configureScan (request 0x10 [1, 7, 1, 3, 2]) running = some [0x04, 0xFF] := by decide +kernel

/-- R195: H of 17 is the fifth field out of range. -/
theorem test_configureStream :
    (after .configureStream (executing (request 0x11 [15, 1, 3, 16, 16, 1]) State.reset)).streams[15]
      = { enabled := true, filter := .coefficients 3, decimation := 16, history := 16, format := .packed }
    ∧ replyTo .configureStream (request 0x11 [15, 1, 3, 16, 17, 1]) State.reset = some [0x03, 5] := by decide +kernel

/-- R196: a negative coefficient; SET_IN_USE names the set. -/
theorem test_loadCoefficients :
    (after .loadCoefficients (executing (request 0x12 [3, 1, 15, 0xFE, 0xFF]) running)).coefficients[3]
      = { shift := 15, coefficients := [-2] }
    ∧ replyTo .loadCoefficients (request 0x12 [0, 0, 0]) running = some [0x05, 0] := by decide +kernel

/-- R197: a Q of 0 is refused with index 4. -/
theorem test_configureProfile :
    (after .configureProfile (executing (request 0x13 [2, 0x01, 0x80, 0x10, 0x27, 1, 0, 1]) State.reset)).profiles[2]
      = { mask := 0x8001, preCount := 10000, postCount := 1, extend := true }
    ∧ replyTo .configureProfile (request 0x13 [2, 1, 0, 0, 0, 0, 0, 0]) State.reset = some [0x03, 4] := by decide +kernel

/-- R198: OUTSIDE with low above high is refused with index 6. -/
theorem test_configureWatch :
    replyTo .configureWatch (request 0x14 [7, 1, 0, 0, 0, 0, 0xF4, 1, 100, 0, 3, 4, 0, 0xFF, 1, 0]) running
      = some [0x00, 0x01]
    ∧ replyTo .configureWatch (request 0x14 [7, 1, 0, 2, 5, 0, 4, 0, 0, 0, 1, 0, 0, 0xFF, 0, 0]) running
      = some [0x03, 6] := by decide +kernel

/-- R199: an unusable profile gives 30h plus its number. -/
theorem test_configureExternalTrigger :
    replyTo .configureExternalTrigger (request 0x15 [1, 1, 0, 0, 0x40, 0x42, 0x0F, 0]) running = some [0x00, 0x01]
    ∧ replyTo .configureExternalTrigger (request 0x15 [1, 1, 2, 0, 0, 0, 0, 0]) running = some [0x06, 0x32] := by
  decide +kernel

/-- R200: a period of 9 us is refused with index 2. -/
theorem test_configureAcquisition :
    (after .configureAcquisition (executing (request 0x16 [1, 10, 0, 0, 0, 1]) State.reset)).settings
      = { source := .external, period := 10, policy := .discardOldestRead }
    ∧ replyTo .configureAcquisition (request 0x16 [1, 9, 0, 0, 0, 1]) State.reset = some [0x03, 2] := by decide +kernel

/-- R201: the echoed item and number, then the settings of stream 1. -/
theorem test_readConfiguration : replyTo .readConfiguration (request 0x17 [1, 1]) ready
    = some [0x00, 0x01, 0x01, 0x01, 0x00, 0x02, 0x01, 0x01] := by decide +kernel

/-- R125: RUNNING with the first round begun; R123: nothing configured is refused at step 1. -/
theorem test_startAcquisition :
    (after .startAcquisition (executing (request 0x20 []) ready)).round = .inRound 0 0 (microseconds 4)
    ∧ replyTo .startAcquisition (request 0x20 []) State.reset = some [0x06, 0xFF] := by decide +kernel

/-- R127: with a record OPEN the graceful stop drains. -/
theorem test_stopGraceful : replyTo .stopGraceful (request 0x21 [0]) collecting = some [0x00, 0x02]
    ∧ (stopGently running).acquisition = .idle := by decide +kernel

/-- R126: in IDLE nothing changes; R44: the record is SEALED with STOPPED. -/
theorem test_stopImmediate : replyTo .stopImmediate (request 0x21 [1]) State.reset = some [0x00, 0x00]
    ∧ ((stopNow collecting).records.map fun r => (r.state, r.flags.stopped)) = [(.closed, true)] := by decide +kernel

/-- R100: ROUND_BUSY during a round. -/
theorem test_convertOnce :
    replyTo .convertOnce (request 0x22 []) { running with settings := { resetSettings with source := .host } }
      = some [0x00, 0x40, 0x42, 0x0F, 0, 0, 0]
    ∧ replyTo .convertOnce (request 0x22 [])
        { running with settings := { resetSettings with source := .host }, round := .inRound 3 0 100 }
      = some [0x0E, 0xFF] := by decide +kernel

/-- R205: OPENED with the record's number. -/
theorem test_forceCapture : replyTo .forceCapture (request 0x23 [0]) running = some [0x00, 0x00, 1, 0, 0x00]
    ∧ replyTo .forceCapture (request 0x23 [1]) running = some [0x06, 0x31] := by decide +kernel

/-- R206: two records of 32 bytes without parts. -/
theorem test_listRecords : replyTo .listRecords (request 0x30 []) reading
    = some [0x00, 2, 1, 0, 0, 0x01, 0, 32, 0, 2, 0, 0, 0x02, 0, 32, 0] := by decide +kernel

/-- R207: READOUT_BUSY; an offset at the image's end is BAD_OFFSET. -/
theorem test_readRecord :
    replyTo .readRecord (request 0x31 [1, 0, 0, 0]) { reading with readout := resetReadout } = some [0x00, 1, 0, 32, 0, 0]
    ∧ replyTo .readRecord (request 0x31 [1, 0, 32, 0]) { reading with readout := resetReadout } = some [0x0C, 0xFF] := by
  decide +kernel

/-- R208. -/
theorem test_cancelReadout :
    (after .cancelReadout (executing (request 0x32 []) reading)).readout.state = .idle
    ∧ replyTo .cancelReadout (request 0x32 []) running = some [0x0F, 0xFF] := by decide +kernel

/-- R209. -/
theorem test_releaseRecord :
    ((after .releaseRecord (executing (request 0x33 [1, 0]) reading)).records.map fun r => r.number) = [2]
    ∧ replyTo .releaseRecord (request 0x33 [9, 0]) reading = some [0x09, 0xFF] := by decide +kernel

/-- R210: READING stays. -/
theorem test_releaseAllSealed : replyTo .releaseAllSealed (request 0x34 []) reading = some [0x00, 1] := by decide +kernel

/-- R211. -/
theorem test_acknowledgeAlarm :
    (after .acknowledgeAlarm (executing (request 0x38 [5]) { running with alarms := [alarm 5 1 (.waiting 7)] })).alarms = []
    ∧ replyTo .acknowledgeAlarm (request 0x38 [6]) running = some [0x0D, 0xFF] := by decide +kernel

/-- R185 to R187: a bulk type sent by the host; a type of 80h or above is answered with FFh. -/
theorem test_unknownRequest : replyTo .unknownRequest (request 0x61 []) running = some [0x01, 0x61]
    ∧ ((after .unknownRequest (executing (request 0x80 []) running)).transmit.sending.map fun t => t.frame.type)
      = some 0xFF := by decide +kernel

/-! ## Witnesses: a state and operands that meet the hypotheses of each statement, clause by clause. Where a statement has
`s` and `u`, the state has nothing due, so that it finds itself. -/

/-- A running part with one receiver state. -/
def receiving (state : ReceiverState) (content : List Byte) (expected timer : Option Nat) : State :=
  { running with receiver := { state, content, expected, timer, breakMark := false } }

/-- A suspended NORMAL frame under an URGENT one that is being sent. -/
def stacked : State :=
  { sending (.alarmReport 5 0 true) [1, 2] running with
    transmit := { (sending (.alarmReport 5 0 true) [1, 2] running).transmit with
      suspended := [{ frame := noticeFrame (.restarted .pin), unsent := [3] }] } }

/-- The part held in reset. -/
def held : State := heldInReset running

/-- ABORT on the line, with a reset that waits for it. -/
def abortEnding (awaited : AwaitedReset) (low : Bool) : State :=
  { running with
    transmit := { running.transmit with line := some 0xE5, lineTime := 100 }
    resetting := { pinLow := low, held := false, awaited := some awaited } }

/-- The reply to a Restart waits in the NORMAL queue. -/
def restartQueued : State :=
  { running with transmit := { running.transmit with
      normal := [{ kind := .restartReply, type := 0x85, tag := 7, payload := [0x00] }] } }

theorem test_meets_EmptyQueueLetsAMicrosecondPass :
    Finds running running ∧ running.pending = [] ∧ running.clock.phase < unitsPerMicrosecond
    ∧ Finds { running with clock := { timebase := 5, phase := 287 } } { running with clock := { timebase := 5, phase := 287 } } := by
  decide +kernel

theorem test_meets_CommandsAnswerAndAHeldPartTakesNone :
    held.resetting.held = true ∧ (∀ p, Instr.identify ≠ .powerOnReset p) ∧ ∀ p, Instr.identify ≠ .pinResetEnd p := by
  refine ⟨rfl, ?_, ?_⟩ <;> (intro p h; cases h)

theorem test_meets_OnlyTheLinkMovesAroundAnEvent :
    NothingDue running ∧ NothingDue armed
    ∧ (running.transmit.line = none ∧ running.resetting.awaited = none ∧ stacked.transmit.line ≠ none
      ∧ (abortEnding .pin true).resetting.awaited ≠ none)
    ∧ (let s := { running with alarms := [alarm 4 1 (.waiting 9), alarm 5 0 .pending, alarm 6 0 .pending] }
      s.alarms = [alarm 4 1 (.waiting 9)] ++ alarm 5 0 .pending :: [alarm 6 0 .pending]
      ∧ (∀ x ∈ [alarm 4 1 (.waiting 9)], x.state ≠ .pending) ∧ s.transmit.urgent.length < 4
      ∧ ∀ e ∈ running.alarms, e.state ≠ .pending)
    ∧ 4 ≤ (List.replicate 4 (alarmReportFrame (alarm 5 0 .queued) 0)).length
    ∧ (let s := { running with inbound := [request 1 [], request 2 []] }
      s.dispatcher.state = .free ∧ s.inbound = request 1 [] :: [request 2 []] ∧ s.transmit.normal.length < 8)
    ∧ ((executing (request 1 []) running).dispatcher.state ≠ .free ∧ running.inbound = [])
    ∧ ((conclude running).transmit.urgent.length < 4 ∧ (conclude running).transmit.line = none
      ∧ (conclude running).dispatcher.state = .free) := by decide +kernel

theorem test_meets_PinResetHoldsThePartUntilResetRises :
    (Finds running running ∧ inTransmission running = false)
    ∧ (Finds stacked stacked ∧ inTransmission stacked = true ∧ aborting stacked = false)
    ∧ (let s := { stacked with transmit := { stacked.transmit with tail := [0xE5] } }
      Finds s s ∧ inTransmission s = true ∧ aborting s = true)
    ∧ held.resetting.held = true := by decide +kernel

theorem test_meets_AwaitedResetsFollowTheirAbort :
    (∀ s ∈ [abortEnding .restart false, abortEnding .pin true, abortEnding .pin false],
      Finds s s ∧ s.transmit.line = some 0xE5 ∧ s.transmit.tail = [])
    ∧ (abortEnding .restart false).resetting.awaited = some .restart
    ∧ ((abortEnding .pin true).resetting.awaited = some .pin ∧ (abortEnding .pin true).resetting.pinLow = true)
    ∧ ((abortEnding .pin false).resetting.awaited = some .pin ∧ (abortEnding .pin false).resetting.pinLow = false)
    ∧ (Finds restartQueued restartQueued ∧ restartQueued.receiver.breakMark = false
      ∧ brokenInto restartQueued = restartQueued ∧ discardsRestart restartQueued = true
      ∧ inTransmission restartQueued = false ∧ aborting restartQueued = false) := by decide +kernel

/-- A break in HUNT, and one inside a frame. -/
theorem test_meets_BreakResetsTheLink :
    (∀ s ∈ [stacked, reading], Finds s s ∧ s.receiver.breakMark = false ∧ brokenInto s = s ∧ NoRestartAtOnce s
      ∧ s.dispatcher.state = .free)
    ∧ (∀ s ∈ [receiving .inFrame [1] none (some 9)], Finds s s ∧ s.receiver.breakMark = false
      ∧ NoRestartAtOnce (brokenInto s) ∧ discardsRestart (brokenInto s) = false) := by decide +kernel

/-- A Restart's reply queued over frames in transmission: the break's ABORT goes first (R168). -/
theorem test_meets_BreakResetsTheLink_restart :
    let s := { stacked with transmit := { stacked.transmit with normal := restartQueued.transmit.normal } }
    Finds s s ∧ s.receiver.breakMark = false ∧ brokenInto s = s ∧ discardsRestart s = true ∧ NoRestartAtOnce s := by
  decide +kernel

/-- Cancel Readout and a Force Capture in execution, the latter with both streams of profile 0 collecting elsewhere. -/
theorem test_meets_BreakResetsTheLink_afterReply :
    (let s := executing (request 0x32 []) reading
     Finds s s ∧ s.receiver.breakMark = false ∧ brokenInto s = s ∧ NoRestartAtOnce s
      ∧ s.dispatcher.state = .executing (request 0x32 []) ∧ s.readout.state ≠ .idle)
    ∧ (let s := executing (request 0x23 [byteOf 0])
        { running with sinks := put (put running.sinks 0 (.capture 1)) 1 (.capture 1) }
      Finds s s ∧ s.receiver.breakMark = false ∧ brokenInto s = s ∧ NoRestartAtOnce s
      ∧ s.dispatcher.state = .executing (request 0x23 [byteOf 0]) ∧ s.acquisition = .running ∧ ProfileUsable 0 s
      ∧ s.openRecord[0] = none ∧ openingStreams s.profiles[0] s = [] ∧ s.counters[4].value = 0) := by decide +kernel

theorem test_meets_BreakMarkSilencesTheReceiver :
    Finds { running with receiver := { resetReceiver with breakMark := true } }
      { running with receiver := { resetReceiver with breakMark := true } } := by decide +kernel

theorem test_meets_HuntWaitsForAnOpen :
    Finds running running ∧ running.receiver.breakMark = false ∧ running.receiver.state = .hunt
    ∧ ∀ b ∈ ([0xE0, 0xE2] : List Byte), b ≠ 0xE1 := by decide +kernel

/-- The third content byte sets the expected count; a fourth is collected; E0h and E6h are not reserved. -/
theorem test_meets_FrameCollectsItsCharacters :
    (∀ s ∈ [receiving .inFrame [] none (some 9), receiving .inFrame [1, 2] none (some 9),
        receiving .inFrame [1, 2, 9] (some 14) (some 9)],
      Finds s s ∧ s.receiver.breakMark = false ∧ s.receiver.state = .inFrame)
    ∧ (∀ b ∈ ([0x00, 0xE0, 0xE6, 0xFF] : List Byte), isReserved b = false
      ∧ some (b.toNat + 5) ≠ some (([1, 2] : List Byte).length + 1) ∧ (none : Option Nat) ≠ some (([] : List Byte).length + 1)
      ∧ some 14 ≠ some (([1, 2, 9] : List Byte).length + 1)) := by decide +kernel

/-- The last of 5 content bytes completes the frame, inside a frame and after an ESCAPE; a length byte never does. -/
theorem test_meets_FrameCollectsItsCharacters_completing :
    (∀ state ∈ [ReceiverState.inFrame, .escapePending],
      Finds (receiving state [1, 2, 0, 4] (some 5) (some 9)) (receiving state [1, 2, 0, 4] (some 5) (some 9)))
    ∧ isReserved 0xE0 = false ∧ (if ([1, 2, 0, 4] : List Byte).length = 2 then none else some 5)
      = some (([1, 2, 0, 4] : List Byte).length + 1) := by decide +kernel

theorem test_meets_EscapeTakesItsFollower :
    (∀ s ∈ [receiving .escapePending [] none (some 9), receiving .escapePending [1, 2] none (some 9)],
      Finds s s ∧ s.receiver.breakMark = false ∧ s.receiver.state = .escapePending)
    ∧ (∀ c ∈ ([0xC0, 0xC6, 0xE4] : List Byte), c ≠ 0xE1 ∧ ¬ (0xC1 ≤ c.toNat ∧ c.toNat ≤ 0xC5))
    ∧ ∀ b ∈ ([0xC1, 0xC5] : List Byte), 0xC1 ≤ b.toNat ∧ b.toNat ≤ 0xC5
      ∧ some (b.toNat + 32 + 5) ≠ some (([1, 2] : List Byte).length + 1) := by decide +kernel

theorem test_meets_RequestFramesSurviveTheLine :
    (request 0x38 [0xE1]).payload.length ≤ 255 ∧ running.receiver.breakMark = false ∧ running.receiver.state = .hunt
    ∧ running.inbound.length < 4 := by decide +kernel

theorem test_meets_DiscardedFramesAreCounted :
    (5 ≤ ([0x38, 0xE3, 0x01, 0xE1, 0xB5, 0x0B] : List Byte).length
      ∧ (crcOf [0x38, 0xE3, 0x01, 0xE1]).toNat ≠ valueOf [0xB5, 0x0B])
    ∧ ((crcOf [0x38, 0xE3, 0x01, 0xE1]).toNat = valueOf [0xB5, 0x0A] ∧ ([0xB5, 0x0A] : List Byte).length = 2
      ∧ running.inbound.length < 4)
    ∧ 4 ≤ { running with inbound := List.replicate 4 (request 1 []) }.inbound.length
    ∧ (Finds (receiving .inFrame [1] none (some 9)) (receiving .inFrame [1] none (some 9))
      ∧ (receiving .inFrame [1] none (some 9)).receiver.timer = some 9)
    ∧ (Finds running running ∧ running.receiver.timer = none) := by decide +kernel

/-- Each part of a character at its first and last moment, at the slowest rate: start bit, data bits 0 and 7, stop bit. -/
theorem test_meets_ReservedBytesAreEscaped_line :
    let T := characterTime 0
    (∀ left ∈ [1, T], 0 < left ∧ left ≤ T) ∧ 10 * (T - T) < T ∧ 9 * T ≤ 10 * (T - 1)
    ∧ (∀ left ∈ [T * 9 / 10, T * 8 / 10 + 1], (0 + 1) * T ≤ 10 * (T - left) ∧ 10 * (T - left) < (0 + 2) * T)
    ∧ (∀ left ∈ [T * 2 / 10, T / 10 + 1], (7 + 1) * T ≤ 10 * (T - left) ∧ 10 * (T - left) < (7 + 2) * T) := by
  decide +kernel

theorem test_meets_ReservedBytesAreEscaped :
    (∀ b ∈ ([0xE1, 0xE5] : List Byte), 0xE1 ≤ b.toNat ∧ b.toNat ≤ 0xE5)
    ∧ ∀ b ∈ ([0xE0, 0xE6] : List Byte), ¬ (0xE1 ≤ b.toNat ∧ b.toNat ≤ 0xE5) := by decide

/-- The last 3 post samples of `part` are in its page; the PACKED part holds one block. -/
theorem test_meets_ImagesHaveTheLengthOfTheirParts :
    ∀ p ∈ [{ part 0 with postCount := 3 },
        { part 1 with format := .packed, postCount := 1,
                      run := { pages := [{ number := 1, content := List.replicate 17 0 }], fill := 1, pendingBlock := [] } }],
      skippedBytes p + dataLength p ≤ (storedBytes p).length := by decide

theorem test_meets_BlocksTakeTheLeastShift : (List.replicate 16 (BitVec.ofInt 16 (-32768))).length ≤ 16
    ∧ ([] : List Sample).length ≤ 16
    ∧ (List.replicate 14 (1 : Sample)).length < 15 ∧ (List.replicate 15 (1 : Sample)).length = 15 := by decide

/-- A NORMAL frame with a character left, with and without a pending alarm report; an ESCAPE just sent; an idle line. -/
theorem test_meets_BoundaryContinuesOrSuspends :
    let quiet := sending .notice [1] running
    let loaded := { quiet with transmit := { quiet.transmit with urgent := [alarmReportFrame (alarm 5 0 .queued) 0] } }
    let escaping := { loaded with transmit := { loaded.transmit with line := some 0xE4 } }
    (∀ s ∈ [quiet, loaded, escaping], Finds s s ∧ s.transmit.tail = []
      ∧ (s.transmit.sending.map fun t => t.unsent) = some [1])
    ∧ quiet.transmit.line = some 0x40 ∧ escaping.transmit.line = some 0xE4
    ∧ (frameClass (noticeFrame (.restarted .pin)) = .normal ∧ loaded.transmit.urgent ≠ [])
    ∧ (Finds running running ∧ running.transmit.line = none) := by decide +kernel

/-- An abort with an escape's follower and the ABORT to send; a SUSPEND just sent; an ABORT just sent that no reset awaits. -/
theorem test_meets_BoundaryContinuesOrSuspends_without_frame :
    let line (c : Byte) (tail : List Byte) : State :=
      { running with transmit := { running.transmit with line := some c, lineTime := 25000, tail := tail } }
    (∀ s ∈ [line 0xE4 [0xC1, 0xE5], line 0xC1 [0xE5], line 0xE2 [], line 0xE5 []], Finds s s)
    ∧ ((line 0xE2 []).transmit.sending = none ∧ (0xE2 : Byte) ≠ 0xE5)
    ∧ (line 0xE5 []).resetting.awaited = none := by decide +kernel

/-- The buffer holds a chunk of the readout, the BULK_LAST or not. -/
def finishing (last : Bool) : State :=
  { sending .chunk [] { reading with readout := { reading.readout with state := .finishing, offset := 32 } } with
    transmit := { (sending .chunk [] reading).transmit with
      bulk := some { frame := { kind := .chunk, type := 0x61, tag := 9, payload := [0] }, offset := 0, last := last,
                     ofReadout := true } } }

theorem test_meets_FrameEndsGoToTheirOwners :
    (∀ s ∈ [sending .reply [] running, sending .notice [] running, sending (.alarmReport 5 0 false) [] running,
        sending (.alarmReport 5 0 true) [] running, sending .restartReply [] running, finishing false, finishing true],
      Finds s s ∧ s.transmit.line = some 0x40 ∧ s.transmit.tail = []
      ∧ (s.transmit.sending.map fun t => t.unsent) = some [])
    ∧ (finishing true).readout.state = .finishing
    ∧ ((finishing true).transmit.bulk.map fun c => (c.last, c.ofReadout)) = some (true, true)
    ∧ ((finishing false).transmit.bulk.map fun c => c.last) = some false
    ∧ (sending .restartReply [] running).transmit.suspended = [] := by decide +kernel

/-- The reply to a Restart ends over a suspended frame. -/
theorem test_meets_FrameEndsGoToTheirOwners_restart :
    let s := { sending .restartReply [] running with transmit :=
      { (sending .restartReply [] running).transmit with
        suspended := [{ frame := { kind := .chunk, type := 0x60, tag := 0, payload := [] }, unsent := [3] }] } }
    Finds s s ∧ s.transmit.line = some 0x40 ∧ s.transmit.tail = []
    ∧ (s.transmit.sending.map fun t => (t.frame.kind, t.unsent)) = some (.restartReply, [])
    ∧ s.transmit.suspended ≠ [] := by decide +kernel

theorem test_meets_ChoiceFollowsTheClasses :
    let report := alarmReportFrame (alarm 5 0 .queued) 0
    let notice := noticeFrame (.restarted .pin)
    let chunk : Frame := { kind := .chunk, type := 0x60, tag := 0, payload := [] }
    let queued (urgent normal suspended : List Frame) : State := { running with
      transmit := { running.transmit with urgent, normal, suspended := suspended.map fun f => { frame := f, unsent := [1] } } }
    (∀ s ∈ [queued [report] [notice] [], queued [report] [] [notice]],
      s.transmit.urgent = [report] ∧ ∀ t ∈ s.transmit.suspended.head?, frameClass t.frame ≠ .urgent)
    ∧ (∀ s ∈ [queued [] [notice] [], queued [] [notice] [chunk]], s.transmit.urgent = [] ∧ s.transmit.normal = [notice]
      ∧ ∀ t ∈ s.transmit.suspended.head?, frameClass t.frame = .bulk)
    ∧ (∀ s ∈ [queued [] [notice] [notice], queued [] [] [chunk]], s.transmit.suspended ≠ [] ∧ s.transmit.urgent = []
      ∧ (s.transmit.normal = [] ∨ ∀ t ∈ s.transmit.suspended.head?, frameClass t.frame ≠ .bulk))
    ∧ running.transmit.suspended = [] ∧ running.transmit.urgent = [] ∧ running.transmit.normal = []
    ∧ running.readout.state ≠ .active := by decide +kernel

theorem test_meets_ChunksCarryTheImage :
    reading.transmit.suspended = [] ∧ reading.transmit.urgent = [] ∧ reading.transmit.normal = []
    ∧ reading.transmit.bulk = none ∧ reading.readout.state = .active
    ∧ findRecord reading.readout.record reading = some (record 2 .reading) := by decide +kernel

/-- RUNNING under EXTERNAL. -/
def external : State := { running with settings := { running.settings with source := .external }, pacer := .stopped }

/-- A round in progress, slot 0 in conversion. -/
def converting (left : Int) (s : State) : State := { s with round := .inRound 3 0 left }

theorem test_meets_StartEventsBeginRoundsOrOverrun :
    (Finds running running ∧ running.pacer = .running (microseconds 1000) 10 ∧ running.round = .noRound
      ∧ (convertedStreams running).head? = some 0)
    ∧ (Finds (converting 5 running) (converting 5 running) ∧ (converting 5 running).pacer = .running (microseconds 1000) 10
      ∧ (converting 5 running).round ≠ .noRound)
    ∧ (Finds external external ∧ external.pacer = .stopped ∧ external.pins.convIn = edgeLevel .falling
      ∧ external.pins.convIn ≠ edgeLevel .rising ∧ external.settings.source = .external ∧ external.acquisition ≠ .idle
      ∧ external.round = .noRound ∧ (convertedStreams external).head? = some 0)
    ∧ (Finds (converting 5 external) (converting 5 external) ∧ (converting 5 external).round ≠ .noRound)
    ∧ (running.settings.source ≠ .external ∧ State.reset.acquisition = .idle) := by decide +kernel

theorem test_meets_ConversionsHandOverTheirSample :
    (Finds running running ∧ running.round = .noRound)
    ∧ (∀ left ∈ ([5, 0, -5] : List Int), Finds (converting left running) (converting left running)
      ∧ (converting left running).filters[0].due = none
      ∧ (converting left running).round = .inRound 3 0 left)
    ∧ (slotAfter 0 running = some 1 ∧ slotAfter 1 running = none ∧ running.scan[0]?.isSome = true) := by decide +kernel

/-- An output is due on stream 0. -/
def outputDueOn (s : State) : State :=
  { s with filters := put s.filters 0 { resetFilter with count := 1, due := some { value := 100, start := 3 } } }

/-- An earlier output of the converted stream is due: the round goes on after it, and ends with the drain that it ends. -/
theorem test_meets_ConversionsHandOverTheirSample_outputDue :
    let cut := converting 5 (outputDueOn { collecting with
      free := [], acquisition := .draining
      records := [{ record 1 .opened with parts := [{ part 0 with run := { (part 0).run with fill := 128 } }] }] })
    (∀ s ∈ [converting 5 (outputDueOn running), cut], Finds s s ∧ s.filters[0].due ≠ none ∧ s.round = .inRound 3 0 5)
    ∧ (settle (conclude (takeOutput 0 (converting 5 (outputDueOn running))))).round = .inRound 3 0 5
    ∧ (settle (conclude (takeOutput 0 cut))).round = .noRound := by decide +kernel

/-- With its sink at NONE, its ring and a record; and while draining a record that stays OPEN. -/
theorem test_meets_OutputsAreStoredAndJudged :
    (Finds running running ∧ running.filters[0].due = none)
    ∧ ∀ s ∈ [outputDueOn { running with sinks := put running.sinks 0 .none }, outputDueOn running, outputDueOn collecting,
        outputDueOn { collecting with acquisition := .draining }],
      Finds s s ∧ s.filters[0].due = some { value := 100, start := 3 }
      ∧ (s.acquisition = .draining → anyOpen (captureStore 1 0 1600 s) = true) := by decide +kernel

/-- A trigger of stream 0 on its way; and a drain whose last window is cut: no page is left for record 1. -/
theorem test_meets_OutputsAreStoredAndJudged_triggers :
    let t : Trigger := { trigger with sample := some { stream := 0, index := 4, value := 5 } }
    let s := { outputDueOn running with triggers := [t] }
    Finds s s ∧ s.filters[0].due = some { value := 100, start := 3 } ∧ ofStream 0 t = true ∧ s.acquisition = .running := by
  decide +kernel

def lastWindow : State :=
  outputDueOn { collecting with
    free := [], acquisition := .draining
    records := [{ record 1 .opened with parts := [{ part 0 with run := { (part 0).run with fill := 128 } }] }] }

/-- An output of stream 1 is due as well. -/
def andOnStream1 (s : State) : State :=
  { s with filters := put s.filters 1 { resetFilter with count := 2, due := some { value := 7, start := 3 } } }

/-- The drain ends with no other output due, and with one. -/
theorem test_meets_OutputsAreStoredAndJudged_drain :
    ∀ s ∈ [lastWindow, andOnStream1 lastWindow],
      Finds s s ∧ s.filters[0].due = some { value := 100, start := 3 } ∧ s.acquisition = .draining
      ∧ anyOpen (captureStore 1 0 1600 s) = false := by decide +kernel

/-- R119: the output of stream 1 that is due at the end of the drain is made first, so its index has risen at IDLE. -/
theorem test_drainEnd_delivers_first :
    let t := after (.decimationOutput 0) (andOnStream1 lastWindow)
    t.acquisition = .idle ∧ t.filters[1].due = none ∧ t.filters[1].index = 1 := by decide +kernel

/-- Four triggers of stream 0 on a full table whose records have READ, with no page free: the first discards a record and
opens one for stream 0, the second finds it collecting, the others discard and open for streams 1 and 2. -/
def crowded : State :=
  let t : Trigger := { trigger with sample := some { stream := 0, index := 4, value := 5 } }
  let p : Profile := { mask := 1, preCount := 0, postCount := 5, extend := false }
  outputDueOn { running with
    free := []
    streams := put running.streams 2 { resetStream with enabled := true }
    profiles := put (put (put (put running.profiles 0 p) 1 p) 2 { p with mask := 2 }) 3 { p with mask := 4 }
    records := (List.range 32).map fun i => readRecord (i + 1)
    nextRecord := 33
    settings := { running.settings with policy := .discardOldestRead }
    triggers := (List.finRange 4).map fun i => { t with profile := i } }

/-- R84, R173: each trigger ahead of the delivery is an event of its own, so the idle line has begun the first notice (FAULT)
before the others are offered, and all seven find room (R145): RECORD_DISCARDED, FAULT (CAPTURE_LOST_OVERLAP), two
RECORD_DISCARDED, FAULT (STREAM_TRUNCATED) and CAPTURE_DONE wait. -/
theorem test_triggers_ahead_are_events :
    let t := after (.decimationOutput 0) crowded
    (t.transmit.sending.map fun x => x.frame.type) = some 0x42
    ∧ (t.transmit.normal.map fun f => f.type) = [0x46, 0x42, 0x46, 0x46, 0x42, 0x41]
    ∧ (counterOf t .noticeDropped).value = 0 := by decide +kernel

theorem test_meets_OutputsStayInTheirRange :
    (List.replicate 32 (32767 : Sample)).length ≤ 32 ∧ ∀ x ∈ ([-2048, 2047] : List Int), -2048 ≤ x ∧ x ≤ 2047 := by decide

/-- Stream 0 with some pages in its ring, filled to a position, and some pages free. -/
def ringing (pages : List Page) (fill free : Nat) : State :=
  { running with
    free := running.free.take free
    rings := put running.rings 0 { run := { pages := pages, fill := fill, pendingBlock := [] }, starved := false } }

/-- Stream 0 collects for record 1 on some pages. -/
def collectingOn (pages : List Page) (fill free : Nat) : State :=
  { collecting with
    free := running.free.take free
    records := [{ record 1 .opened with
      parts := [{ part 0 with run := { pages := pages, fill := fill, pendingBlock := [] } }] }] }

theorem test_meets_SamplesAreStoredByTheirSink :
    let page : Page := { number := 190, content := [] }
    let full := positions .full
    running.streams[0].format = .full ∧ running.streams[0].history = 2
    ∧ ((ringing [page] (full - 1) 9).rings[0].run.pages ≠ [] ∧ (ringing [page] (full - 1) 9).rings[0].run.fill < full)
    ∧ (full ≤ (ringing [page, page] full 9).rings[0].run.fill ∧ 2 ≤ (ringing [page, page] full 9).rings[0].run.pages.length)
    ∧ ((ringing [] 0 9).rings[0].run.pages = [] ∧ (ringing [] 0 9).rings[0].run.pages.length < 2
      ∧ (ringing [] 0 9).free ≠ [] ∧ 8 < (ringing [] 0 9).free.length)
    ∧ ((ringing [page] full 8).free.length ≤ 8 ∧ full ≤ (ringing [page] full 8).rings[0].run.fill
      ∧ (ringing [page] full 8).rings[0].run.pages.length < 2)
    ∧ ((ringing [] 0 8).free.length ≤ 8 ∧ (ringing [] 0 8).rings[0].run.pages = [])
    ∧ (∀ s ∈ [collectingOn [page] (full - 1) 0, collectingOn [page] full 1, collectingOn [] 0 1, collectingOn [page] full 0],
      ((findRecord 1 s).bind (findPart 0)).isSome = true)
    ∧ (collectingOn [page] full 1).free ≠ [] ∧ (collectingOn [page] full 0).free = [] := by decide +kernel

/-- FULL, 3 pages, tail full: p of 0, of the tail's fill, one more, and all. -/
theorem test_meets_HandoverTakesExactlyTheWindow :
    ∀ p ∈ [0, positions .full, positions .full + 1, 3 * positions .full],
      1 ≤ positions .full ∧ positions .full ≤ positions .full ∧ p ≤ (3 - 1) * positions .full + positions .full := by decide

/-- `reached` with a second part, still collecting. -/
def reachedWithOther : State :=
  { reached with records := [{ record 1 .opened with parts := [{ part 0 with remaining := 0 }, part 1] }] }

theorem test_meets_PostCountsStopCloseAndEndTheDrain :
    (Live running ∧ postCountDue 0 running = none ∧ reached.sinks[0] = .capture 1)
    ∧ (Live reachedWithOther ∧ postCountDue 0 reachedWithOther = some 1
      ∧ (findRecord 1 reachedWithOther).isSome = true ∧ reachedWithOther.acquisition = .running)
    ∧ (Live reached ∧ postCountDue 0 reached = some 1 ∧ reached.acquisition = .running
      ∧ ∀ r ∈ findRecord 1 reached, r.state = .opened ∧ r.parts.map (fun p => p.stream) = [0])
    ∧ (let s := { reached with acquisition := .draining }
      Live s ∧ RecordNumbersSound s ∧ s.acquisition = .draining ∧ postCountDue 0 s = some 1
      ∧ ∀ r ∈ s.records, findRecord 1 s = some r ∧ r.state = .opened ∧ PartsDistinct r ∧ r.number = 1
        ∧ ∀ p ∈ r.parts, p.collecting = true → p.stream = 0) := by decide +kernel

/-- Draining: a record closes while another stays OPEN; and the last one closes, also with an output due. -/
theorem test_meets_PostCountsStopCloseAndEndTheDrain_draining :
    (let s := { reached with acquisition := .draining, records := reached.records ++ [record 2 .opened] }
     Live s ∧ postCountDue 0 s = some 1 ∧ (findRecord 1 s).isSome = true ∧ ∃ x ∈ s.records, x.number = 2 ∧ x.state = .opened)
    ∧ (let s := { reached with acquisition := .draining }
      (andOnStream1 s).filters[1].due.isSome = true ∧ postCountDue 0 (andOnStream1 s) = some 1
      ∧ (s.records.map fun x => (x.number, x.state)) = [(1, .opened)]) := by
  refine ⟨?_, ?_⟩ <;> decide +kernel

/-- One watch for each clause: DISARMED, ARMED below and at q, QUALIFYING, HOLDOFF, REARM_WAIT; samples at the boundaries
500 and 501, 400 and 401. -/
theorem test_meets_WatchesJudgeTheirSamples :
    let d := watch.definition
    d.stream = (sample 501).stream ∧ d.kind = .above ∧ watch.state = .armed
    ∧ ((sample 501).value.toInt > d.high.toInt ∧ watch.qualifyCount + 1 < d.qualify ∧ d.qualify ≤ 2 + 1)
    ∧ ¬ (sample 500).value.toInt > d.high.toInt
    ∧ (sample 400).value.toInt ≤ d.high.toInt - d.hysteresis
    ∧ ¬ (sample 401).value.toInt ≤ d.high.toInt - d.hysteresis
    ∧ ({ watch with state := .disarmed }.state = .disarmed ∧ { d with stream := 1 }.stream ≠ (sample 0).stream) := by decide

/-- Watch 2 in a state. -/
def watching (w : Watch) : State := { running with watches := put running.watches 2 w }

theorem test_meets_WatchesFireAndMoveOn :
    (∀ s ∈ [watching watch, watching { watch with firing := some (sample 700) },
        watching { watch with state := .holdoff }, watching { watch with state := .holdoff, holdoffCount := 1 }],
      Live s ∧ settlePostCounts s = s)
    ∧ (watching watch).watches[2].firing = none
    ∧ (watching { watch with firing := some (sample 700) }).watches[2].firing = some (sample 700)
    ∧ (watching { watch with state := .holdoff }).watches[2].holdoffCount = 0
    ∧ (watching { watch with state := .holdoff, holdoffCount := 1 }).watches[2].holdoffCount ≠ 0 := by decide +kernel

theorem test_meets_TrigInEdgesFireTheExternalTrigger :
    (Finds armed armed ∧ armed.pins.trigIn = edgeLevel .falling ∧ armed.pins.trigIn ≠ edgeLevel .rising
      ∧ armed.external.state = .armed ∧ armed.external.definition.edge = .rising)
    ∧ (Finds running running ∧ running.external.state ≠ .armed ∧ running.pins.trigIn ≠ edgeLevel .rising) := by decide +kernel

theorem test_meets_HoldoffsAndPulsesEnd :
    let s := { armed with
      external := { armed.external with state := .holdoff 7 }, pins := { armed.pins with trigOut := some 7 } }
    (Finds s s ∧ s.external.state = .holdoff 7 ∧ s.pins.trigOut = some 7)
    ∧ Finds armed armed ∧ armed.external.state = .armed ∧ armed.pins.trigOut = none := by decide +kernel

/-- A trigger of profile 0 waits. -/
def triggered (s : State) : State := { s with triggers := [trigger] }

/-- Both streams of profile 0 collect for a record of profile 1. -/
def overlapped : State :=
  triggered { running with sinks := put (put running.sinks 0 (.capture 1)) 1 (.capture 1) }

theorem test_meets_TriggersAreLostOrRetrigger :
    (Finds running running ∧ running.triggers[0]? = none)
    ∧ (Finds (triggered ready) (triggered ready) ∧ (triggered ready).acquisition ≠ .running)
    ∧ (Finds (triggered collecting) (triggered collecting) ∧ collecting.acquisition = .running
      ∧ collecting.openRecord[trigger.profile] = some 1)
    ∧ (Finds overlapped overlapped ∧ overlapped.acquisition = .running ∧ overlapped.openRecord[trigger.profile] = none
      ∧ ∀ k : Fin 16, overlapped.profiles[trigger.profile].mask.getLsbD k.val = true → (capturing k overlapped).isSome = true)
    ∧ (Finds (triggered full) (triggered full) ∧ full.acquisition = .running ∧ full.openRecord[trigger.profile] = none
      ∧ full.profiles[trigger.profile].mask.getLsbD 0 = true ∧ capturing 0 full = none ∧ 32 ≤ full.records.length
      ∧ full.settings.policy = .refuseNew)
    ∧ trigger.earlierRun = false := by decide +kernel

/-- Room for one more record, and streams 0 and 1 not collecting. -/
theorem test_meets_TriggersOpenRecords :
    let s := triggered { full with records := full.records.take 31 }
    Finds s s ∧ s.triggers[0]? = some trigger ∧ s.acquisition = .running ∧ trigger.earlierRun = false
    ∧ s.openRecord[trigger.profile] = none
    ∧ ((List.finRange 16).filter fun k => s.profiles[trigger.profile].mask.getLsbD k.val && (capturing k s).isNone) ≠ []
    ∧ s.records.length < 32 ∧ RecordNumbersSound s := by decide +kernel

theorem test_meets_FullTableDiscardsTheOldestRead :
    let s := { full with settings := { full.settings with policy := .discardOldestRead } }
    RecordNumbersSound s ∧ s.settings.policy = .discardOldestRead ∧ 32 ≤ s.records.length
    ∧ s.records = [record 1 .closed] ++ readRecord 2 :: s.records.drop 2
    ∧ (readRecord 2).state = .closed ∧ (readRecord 2).flags.read = true
    ∧ ∀ x ∈ [record 1 .closed], ¬ (x.state = .closed ∧ x.flags.read = true) := by decide +kernel

/-- The same with a trigger on its way, whose profile has no OPEN record. -/
theorem test_meets_FullTableDiscardsTheOldestRead_trigger :
    let s := triggered { full with settings := { full.settings with policy := .discardOldestRead } }
    Finds s s ∧ s.triggers[0]? = some trigger ∧ s.acquisition = .running ∧ trigger.earlierRun = false
    ∧ s.openRecord[trigger.profile] = none ∧ openingStreams s.profiles[trigger.profile] s ≠ []
    ∧ RecordNumbersSound s ∧ 32 ≤ s.records.length
    ∧ s.records = [record 1 .closed] ++ readRecord 2 :: s.records.drop 2 := by decide +kernel

/-- A list of alarm entries, and an alarm request that waits. -/
def alarming (entries : Nat) : State :=
  { running with
    alarms := (List.range entries).map fun i => alarm (byteOf i) 1 (.waiting 50)
    alarmRequests := [{ source := .force, time := 4, value := none, record := none }] }

theorem test_meets_AlarmRequestsAreListedOrDropped :
    (Finds running running ∧ running.alarmRequests[0]? = none)
    ∧ (Finds (alarming 7) (alarming 7) ∧ (alarming 7).alarmRequests[0]?.isSome = true ∧ (alarming 7).alarms.length < 8)
    ∧ (Finds (alarming 8) (alarming 8) ∧ 8 ≤ (alarming 8).alarms.length) := by decide +kernel

theorem test_meets_AlarmsEndByAcknowledgementOrExpiry :
    let s := { running with alarms := [alarm 5 2 (.waiting 7), alarm 6 3 (.waiting 7)] }
    (Finds s s ∧ findAlarm 4 s = none)
    ∧ (findAlarm 5 s = some (alarm 5 2 (.waiting 7)) ∧ (alarm 5 2 (.waiting 7)).sendCount < 3)
    ∧ (findAlarm 6 s = some (alarm 6 3 (.waiting 7)) ∧ 3 ≤ (alarm 6 3 (.waiting 7)).sendCount)
    ∧ (FindsRequest (request 0x38 [5]) (executing (request 0x38 [5]) s) (executing (request 0x38 [5]) s)
      ∧ ∃ e ∈ s.alarms, e.id = 5)
    ∧ (FindsRequest (request 0x38 [4]) (executing (request 0x38 [4]) s) (executing (request 0x38 [4]) s)
      ∧ ∀ e ∈ s.alarms, e.id ≠ 4) := by decide +kernel

/-- A NORMAL queue of 5 and of 6 frames. -/
theorem test_meets_FirstOccurrencesAreAnnounced :
    running.dispatcher.held = none ∧ running.counters[counterIndex .rxCrc].value = 0
    ∧ CounterId.rxCrc ≠ .linkResets ∧ CounterId.rxCrc ≠ .noticeDropped
    ∧ (setCounter .rxCrc { value := 65535, mark := .reported } running).counters[counterIndex .rxCrc].value ≠ 0
    ∧ (List.replicate 5 (noticeFrame (.restarted .pin))).length ≤ 5
    ∧ 6 ≤ (List.replicate 6 (noticeFrame (.restarted .pin))).length := by decide +kernel

/-- A request in execution in a state is found so. -/
abbrev Asked (r : Request) (s : State) : Prop := FindsRequest r (executing r s) (executing r s)

theorem test_meets_IdentifyGivesThePartsCodes : Asked (request 0x01 []) running ∧ Asked (request 0x01 []) State.reset := by
  decide +kernel

/-- The last item of each kind; the page counts of a part at reset. -/
theorem test_meets_ReportsGiveTheValuesStanding :
    Asked (request 0x02 []) running ∧ Asked (request 0x03 [0]) running ∧ Asked (request 0x30 []) reading
    ∧ (∀ payload ∈ ([[0, 0], [1, byteOf 15], [2, byteOf 3], [3, byteOf 3], [4, byteOf 7], [5, 0], [6, 0]] : List (List Byte)),
      Asked (request 0x17 payload) State.reset)
    ∧ PagesConserved ready ∧ QueuesBounded (executing (request 0x02 []) running) := by decide +kernel

theorem test_meets_ReportsGiveTheValuesStanding_take :
    let s := { running with inbound := List.replicate 4 (request 0x02 []) }
    s.dispatcher.state = .free ∧ s.inbound = request 0x02 [] :: List.replicate 3 (request 0x02 [])
    ∧ s.transmit.normal.length < 8 := by decide +kernel

theorem test_meets_TimeCountersAndRestart :
    Asked (request 0x04 (timeBytes (BitVec.ofInt 48 (-1)))) running ∧ Asked (request 0x03 [1]) running
    ∧ Asked (request 0x05 []) running := by decide +kernel

/-- Every field at the top of its range, in IDLE and while acquiring; set 0 is in use, set 3 is not. -/
theorem test_meets_ConfigurationIsReplacedWhole :
    let slots : List Slot := List.replicate 16 { input := 7, polarity := .inverted, gain := 3, settle := 3 }
    let stream : StreamSettings :=
      { enabled := true, filter := .coefficients 3, decimation := 16, history := 16, format := .packed }
    let profile : Profile := { mask := 0xFFFF, preCount := 65535, postCount := 65535, extend := true }
    let settings : AcquisitionSettings := { source := .host, period := 1000000, policy := .discardOldestRead }
    let set : CoefficientSet := { shift := 15, coefficients := List.replicate 32 1 }
    (∀ s ∈ [ready, running], Asked (request 0x10 (byteOf slots.length :: slots.flatMap slotBytes)) s
      ∧ Asked (request 0x11 (byteOf 15 :: streamBytes stream)) s ∧ Asked (request 0x13 (byteOf 3 :: profileBytes profile)) s
      ∧ Asked (request 0x16 (settingsBytes settings)) s ∧ Asked (request 0x12 (byteOf 3 :: coefficientBytes set)) s
      ∧ Asked (request 0x12 (byteOf 0 :: coefficientBytes set)) s)
    ∧ slots ≠ [] ∧ slots.length ≤ 16 ∧ 1 ≤ stream.decimation ∧ stream.decimation ≤ 16 ∧ stream.history ≤ 16
    ∧ profile.preCount ≤ 65535 ∧ 1 ≤ profile.postCount ∧ profile.postCount ≤ 65535 ∧ 10 ≤ settings.period
    ∧ settings.period ≤ 1000000 ∧ set.coefficients.length ≤ 32 ∧ set.shift ≤ 15
    ∧ ready.acquisition = .idle ∧ running.acquisition ≠ .idle
    ∧ (∀ k : Fin 16, running.streams[k].enabled = true → running.streams[k].filter ≠ .coefficients 3)
    ∧ (running.streams[1].enabled = true ∧ running.streams[1].filter = .coefficients 0) := by decide +kernel

/-- A watch definition at the top of its ranges, sound in `running`; one on a stream that is not enabled; one whose profile
is not usable. -/
def soundWatch : WatchDefinition := { watch.definition with profile := some 0, holdoff := 65535, qualify := 255 }

def astrayWatch : WatchDefinition := { soundWatch with stream := 2, kind := .outside, low := 500 }

def unusableWatch : WatchDefinition := { soundWatch with profile := some 1, kind := .step, hysteresis := 32767 }

/-- The external trigger's definition of `armed` with the longest holdoff and a profile. -/
def externalWith (p : Fin 4) : ExternalDefinition :=
  { armed.external.definition with holdoff := 1000000, profile := some p }

theorem test_meets_WatchAndExternalEdits :
    (∀ d ∈ [soundWatch, astrayWatch, unusableWatch], Asked (request 0x14 (byteOf 7 :: watchBytes d)) running
      ∧ d.hysteresis ≤ 32767 ∧ 1 ≤ d.qualify ∧ d.qualify ≤ 255 ∧ d.holdoff ≤ 65535
      ∧ (d.kind = .outside → d.low.toInt ≤ d.high.toInt) ∧ (d.kind = .step → 0 ≤ d.high.toInt) ∧ d.enabled = true)
    ∧ Asked (request 0x14 (byteOf 7 :: watchBytes soundWatch)) ready ∧ Asked (request 0x15 (externalBytes (externalWith 0))) ready
    ∧ running.acquisition = .running ∧ ready.acquisition ≠ .running := by decide +kernel

theorem test_meets_WatchAndExternalEdits_soundness :
    WatchSound soundWatch running ∧ running.streams[astrayWatch.stream].enabled = false
    ∧ running.streams[unusableWatch.stream].enabled = true ∧ ¬ ProfileUsable 1 running
    ∧ (∀ p ∈ ([0, 1] : List (Fin 4)), Asked (request 0x15 (externalBytes (externalWith p))) running
      ∧ (externalWith p).holdoff ≤ 1000000 ∧ (externalWith p).enabled = true)
    ∧ ExternalSound (externalWith 0) running := by decide +kernel

theorem test_meets_RequestsOfTheWrongFormAreRefused :
    (∀ t ∈ ([0x00, 0x06, 0x40, 0x61, 0x80, 0xFF] : List Byte), Asked (request t []) running
      ∧ t ∉ ([0x01, 0x02, 0x03, 0x04, 0x05, 0x10, 0x11, 0x12, 0x13, 0x14, 0x15, 0x16, 0x17, 0x20, 0x21, 0x22, 0x23, 0x30,
        0x31, 0x32, 0x33, 0x34, 0x38] : List Byte))
    ∧ (Asked (request 0x01 [0]) running ∧ (request 0x01 [0]).payload.length ≠ (0 : Byte).toNat)
    ∧ (Asked (request 0x14 []) running ∧ (request 0x14 []).payload.length ≠ (16 : Byte).toNat)
    ∧ (Asked (request 0x10 [2, 0, 0, 0, 0]) running ∧ Asked (request 0x12 [0, 1, 0]) running)
    ∧ (∀ payload ∈ ([[16, 0, 0, 1, 0, 0], [0, 2, 0, 1, 0, 0], [0, 0, 4, 1, 0, 0], [0, 0, 0, 0, 0, 0], [0, 0, 0, 17, 0, 0],
        [0, 0, 0xFF, 16, 17, 0], [0, 0, 0xFF, 16, 16, 2]] : List (List Byte)), Asked (request 0x11 payload) State.reset)
    ∧ Finds running running ∧ running.dispatcher.state = .free := by decide +kernel

/-- For each request with ranges, a payload for each index: the first field out of range, at the edge of its range. -/
theorem test_meets_RequestsOfTheWrongFormAreRefused_ranges :
    (∀ x ∈ ([(0x03, [2]), (0x21, [2]), (0x23, [4]), (0x33, [0, 0]), (0x31, [0, 0, 0, 0]), (0x17, [7, 0]), (0x17, [0, 1]),
        (0x17, [1, 16]), (0x17, [6, 1]), (0x10, [0]), (0x10, [1, 8, 0, 0, 0]), (0x10, [1, 7, 2, 0, 0]),
        (0x10, [1, 7, 1, 4, 0]), (0x10, [1, 7, 1, 3, 4]), (0x12, [4, 0, 0]), (0x12, 0 :: 33 :: 0 :: List.replicate 66 0),
        (0x12, [3, 0, 16]), (0x13, [4, 0, 0, 0, 0, 1, 0, 0]), (0x13, [3, 0, 0, 0, 0, 0, 0, 0]),
        (0x13, [3, 0, 0, 0, 0, 1, 0, 2]), (0x15, [2, 0, 0, 0, 0, 0, 0, 0]), (0x15, [1, 2, 0, 0, 0, 0, 0, 0]),
        (0x15, [1, 1, 4, 0, 0, 0, 0, 0]), (0x15, [1, 1, 3, 2, 0, 0, 0, 0]), (0x15, [1, 1, 3, 1, 0x41, 0x42, 0x0F, 0]),
        (0x16, [3, 10, 0, 0, 0, 0]), (0x16, [2, 9, 0, 0, 0, 0]), (0x16, [2, 0x41, 0x42, 0x0F, 0, 0]),
        (0x16, [2, 10, 0, 0, 0, 2])] : List (Byte × List Byte)),
      Asked (request x.1 x.2) State.reset)
    ∧ ([8, 2, 4, 4].getD (3 % 4) 0 ≤ ([7, 1, 3, 4].getD 3 0)
      ∧ ∀ m < 3, ([7, 1, 3, 4].getD m 0) < [8, 2, 4, 4].getD (m % 4) 0) := by decide +kernel

/-- Configure Watch: one payload for each index, the last two by the consistency check. -/
theorem test_meets_RequestsOfTheWrongFormAreRefused_watch :
    ∀ payload ∈ ([[8, 0, 0, 0, 0, 0, 0, 0, 0, 0, 1, 0, 0, 0, 0, 0], [7, 2, 0, 0, 0, 0, 0, 0, 0, 0, 1, 0, 0, 0, 0, 0],
        [7, 1, 16, 0, 0, 0, 0, 0, 0, 0, 1, 0, 0, 0, 0, 0], [7, 1, 15, 4, 0, 0, 0, 0, 0, 0, 1, 0, 0, 0, 0, 0],
        [7, 1, 15, 3, 0, 0, 0, 0, 0, 128, 1, 0, 0, 0, 0, 0], [7, 1, 15, 3, 0, 0, 0, 0, 0, 127, 0, 0, 0, 0, 0, 0],
        [7, 1, 15, 3, 0, 0, 0, 0, 0, 127, 1, 0, 0, 4, 0, 0], [7, 1, 15, 3, 0, 0, 0, 0, 0, 127, 1, 0, 0, 0xFF, 2, 0],
        [7, 1, 15, 3, 0, 0, 0, 0, 0, 127, 1, 0, 0, 3, 1, 2], [7, 1, 15, 2, 1, 0, 0, 0, 0, 127, 1, 0, 0, 3, 1, 1],
        [7, 1, 15, 3, 0, 0, 0, 128, 0, 127, 1, 0, 0, 3, 1, 1]] : List (List Byte)),
      Asked (request 0x14 payload) State.reset := by decide +kernel

/-- A Start in IDLE that passes every step: stream 0 is the first enabled one. -/
theorem test_meets_StartsBeginARun :
    Asked (request 0x20 []) ready ∧ ready.acquisition = .idle ∧ StreamsChosen ready ∧ SourcesSound ready
    ∧ enabledHistory ready ≤ 128 ∧ PaceSound ready ∧ ready.streams[0].enabled = true
    ∧ ∀ j : Fin 16, j < 0 → ready.streams[j].enabled = false := by decide +kernel

/-! One state for each step of a Start that fails: stream 2 has no slot, stream 1 names an empty set, watch 2 and the
external trigger name profile 1, sixteen streams of H = 9 overcommit, and a period of 10 us is too fast. -/

def slotless : State := { ready with streams := put ready.streams 2 { resetStream with enabled := true } }

def unloaded : State := { ready with coefficients := State.reset.coefficients }

def badWatch : State := { ready with watches := put ready.watches 2 { resetWatch with definition := unusableWatch } }

def badExternal : State := { ready with external := { definition := externalWith 1, state := .disarmed } }

def deep : State :=
  { ready with
    streams := Vector.replicate 16 { resetStream with enabled := true, history := 9 }
    scan := List.replicate 16 { input := 0, polarity := .normal, gain := 0, settle := 0 } }

def fast : State := { ready with settings := { ready.settings with period := 10 } }

theorem test_meets_StartsAreRefusedInOrder :
    (∀ s ∈ [running, State.reset, slotless, unloaded, badWatch, badExternal, deep, fast], Asked (request 0x20 []) s)
    ∧ (∀ s ∈ [State.reset, slotless, unloaded, badWatch, badExternal, deep, fast], s.acquisition = .idle)
    ∧ (∀ s ∈ [slotless, unloaded, badWatch, badExternal, deep, fast], StreamsChosen s)
    ∧ running.acquisition ≠ .idle ∧ ¬ StreamsChosen State.reset := by decide +kernel

theorem test_meets_StartsAreRefusedInOrder_streams :
    (∀ j : Fin 16, j < 2 → StreamSlotted j slotless) ∧ ¬ StreamSlotted 2 slotless
    ∧ (∀ j : Fin 16, StreamSlotted j unloaded) ∧ (∀ j : Fin 16, j < 1 → StreamLoaded j unloaded)
    ∧ ¬ StreamLoaded 1 unloaded := by decide +kernel

theorem test_meets_StartsAreRefusedInOrder_sources :
    (∀ j : Fin 16, StreamSlotted j badWatch ∧ StreamLoaded j badWatch)
    ∧ (∀ v : Fin 8, v < 2 → WatchSound badWatch.watches[v].definition badWatch)
    ∧ ¬ WatchSound badWatch.watches[2].definition badWatch
    ∧ (∀ j : Fin 16, StreamSlotted j badExternal ∧ StreamLoaded j badExternal)
    ∧ (∀ w : Fin 8, WatchSound badExternal.watches[w].definition badExternal)
    ∧ ¬ ExternalSound badExternal.external.definition badExternal := by
  refine ⟨?_, ?_, ?_, ?_, ?_, ?_⟩ <;> decide +kernel

theorem test_meets_StartsAreRefusedInOrder_limits :
    SourcesSound deep ∧ 128 < enabledHistory deep ∧ SourcesSound fast ∧ enabledHistory fast ≤ 128 ∧ ¬ PaceSound fast := by
  refine ⟨?_, ?_, ?_, ?_, ?_⟩ <;> decide +kernel

/-- A Stop with no output due: in IDLE, while RUNNING with no record and with one OPEN, and in DRAINING. -/
theorem test_meets_StopsDrainOrReachIdle :
    (∀ s ∈ [ready, running, collecting, { collecting with acquisition := .draining }],
      Asked (request 0x21 [0]) s ∧ (∀ k : Fin 16, s.filters[k].due = none))
    ∧ (∀ s ∈ [ready, running], Asked (request 0x21 [1]) s ∧ anyOpen s = false)
    ∧ ready.acquisition = .idle ∧ running.acquisition = .running ∧ anyOpen collecting = true := by decide +kernel

/-- A trigger of stream 0 on its way, and its output due: the delivery opens a record. -/
def openingBefore : State :=
  outputDueOn { running with triggers := [{ trigger with sample := some { stream := 0, index := 4, value := 5 } }] }

/-- A Stop with an output due: none OPEN before and after it; a record that it opens; a drain that it ends. -/
theorem test_meets_StopsDrainOrReachIdle_outputDue :
    (let u := executing (request 0x21 [0]) (outputDueOn running)
     let v := executing (request 0x21 [1]) (outputDueOn running)
     Finds u u ∧ u.acquisition = .running ∧ anyOpen u = false ∧ anyOpen (outputsTaken u) = false
     ∧ Finds v v ∧ (outputsTaken v).acquisition ≠ .idle ∧ anyOpen (outputsTaken v) = false)
    ∧ (let u := executing (request 0x21 [0]) openingBefore
      Finds u u ∧ u.acquisition = .running ∧ anyOpen u = false ∧ anyOpen (outputsTaken u) = true)
    ∧ (let u := executing (request 0x21 [1]) lastWindow
      Finds u u ∧ u.acquisition ≠ .idle ∧ (outputsTaken u).acquisition = .idle) := by decide +kernel

/-- R119, R127, R129, R203: a GRACEFUL Stop drains the record that the output due before it opens; an IMMEDIATE one finds the
drain ended by the output due before it, and ACQUISITION_IDLE (43h) goes ahead of its reply (A1h). -/
theorem test_stop_with_output_due :
    (after .stopGraceful (executing (request 0x21 [0]) openingBefore)).acquisition = .draining
    ∧ (let t := after .stopImmediate (executing (request 0x21 [1]) lastWindow)
      t.acquisition = .idle ∧ (t.transmit.normal.map fun f => f.type) = [0x41, 0x43, 0xA1]) := by decide +kernel

/-- A record OPEN, with no output due, with one, and with one that opens the record. -/
theorem test_meets_ImmediateStopsSealEveryOpenRecord :
    ∀ s ∈ [collecting, outputDueOn collecting, openingBefore],
      let u := executing (request 0x21 [1]) s
      Finds u u ∧ u.acquisition ≠ .idle ∧ (outputsTaken u).acquisition ≠ .idle ∧ RecordNumbersSound (outputsTaken u)
      ∧ (∀ x ∈ (outputsTaken u).records, PartsDistinct x) ∧ anyOpen (outputsTaken u) = true := by decide +kernel

/-- RUNNING under HOST. -/
def hosted : State := { running with settings := { running.settings with source := .host }, pacer := .stopped }

theorem test_meets_ConvertOnceBeginsARound :
    (∀ s ∈ [ready, running, hosted, converting 5 hosted], Asked (request 0x22 []) s)
    ∧ (ready.acquisition = .idle ∧ running.settings.source ≠ .host)
    ∧ (hosted.acquisition ≠ .idle ∧ hosted.settings.source = .host ∧ hosted.round = .noRound
      ∧ (convertedStreams hosted).head? = some 0)
    ∧ (converting 5 hosted).round ≠ .noRound := by decide +kernel

theorem test_meets_ForceCapturesAnswerTheirOutcome :
    let overlapped := countOne .captureLostOverlap
      { running with sinks := put (put running.sinks 0 (.capture 1)) 1 (.capture 1) }
    (∀ s ∈ [ready, running, collecting, overlapped], Asked (request 0x23 [byteOf 0]) s)
    ∧ Asked (request 0x23 [byteOf 3]) running
    ∧ (ready.acquisition ≠ .running ∧ ¬ ProfileUsable 3 running)
    ∧ (collecting.acquisition = .running ∧ ProfileUsable 0 collecting ∧ collecting.openRecord[0] = some 1)
    ∧ (ProfileUsable 0 overlapped ∧ overlapped.openRecord[0] = none ∧ overlapped.counters[4].value ≠ 0
      ∧ ∀ k : Fin 16, overlapped.profiles[0].mask.getLsbD k.val = true → (capturing k overlapped).isSome = true)
    ∧ (running.acquisition = .running ∧ ProfileUsable 0 running ∧ running.openRecord[0] = none
      ∧ running.profiles[0].mask.getLsbD 1 = true ∧ capturing 1 running = none ∧ running.records.length < 32) := by
  decide +kernel

/-- First occurrences: all streams collecting; a full table under REFUSE_NEW; and one with a record to discard. -/
theorem test_meets_ForceCapturesAnswerTheirOutcome_announced :
    let lost := { running with sinks := put (put running.sinks 0 (.capture 1)) 1 (.capture 1) }
    let discarding := { full with settings := { full.settings with policy := .discardOldestRead } }
    (∀ s ∈ [lost, full, discarding], Asked (request 0x23 [byteOf 0]) s ∧ s.acquisition = .running ∧ ProfileUsable 0 s
      ∧ s.openRecord[0] = none)
    ∧ lost.counters[4].value = 0
    ∧ (full.profiles[0].mask.getLsbD 1 = true ∧ capturing 1 full = none ∧ 32 ≤ full.records.length
      ∧ full.settings.policy = .refuseNew ∧ full.counters[3].value = 0)
    ∧ (RecordNumbersSound discarding ∧ discarding.counters[13].value = 0
      ∧ discarding.records = [record 1 .closed] ++ readRecord 2 :: discarding.records.drop 2) := by
  decide +kernel

/-- Record 1 is 32 bytes long: offsets 31, 32 and 65535; the number 65535 is not in the table. -/
theorem test_meets_ReadoutsBeginAndAreCancelled :
    let idle := { reading with readout := resetReadout }
    (∀ offset ∈ [0, 31, 32, 65535],
      Asked (request 0x31 [byteOf 1, byteOf 0, byteOf offset, byteOf (offset / 256)]) idle)
    ∧ Asked (request 0x31 [byteOf 65535, byteOf (65535 / 256), 0, 0]) idle
    ∧ Asked (request 0x31 [byteOf 1, byteOf 0, 0, 0]) reading ∧ Asked (request 0x31 [byteOf 1, byteOf 0, 0, 0]) collecting
    ∧ idle.readout.state = .idle ∧ findRecord 65535 idle = none ∧ findRecord 1 idle = some (record 1 .closed)
    ∧ imageLength (record 1 .closed) = 32 ∧ reading.readout.state ≠ .idle
    ∧ ((findRecord 1 collecting).map fun x => x.state) = some .opened ∧ collecting.readout.state = .idle
    ∧ Asked (request 0x32 []) reading ∧ Asked (request 0x32 []) running ∧ running.readout.state = .idle := by decide +kernel

theorem test_meets_ReleasesReturnTheirPages :
    (∀ n ∈ [1, 2, 65535], Asked (request 0x33 [byteOf n, byteOf (n / 256)]) reading)
    ∧ RecordTableSound reading ∧ 65535 ∉ recordNumbers reading
    ∧ reading.records = [] ++ record 1 .closed :: [record 2 .reading]
    ∧ reading.records = [record 1 .closed] ++ record 2 .reading :: []
    ∧ (Asked (request 0x33 [byteOf 1, 0]) collecting ∧ RecordTableSound collecting
      ∧ (collecting.records.map fun x => (x.number, x.state)) = [(1, .opened)])
    ∧ (∀ s ∈ [reading, full], Asked (request 0x34 []) s ∧ RecordNumbersSound s) := by decide +kernel

/-! For the invariants: a state that meets the invariant and steps. -/

theorem test_meets_PagesKeepOneOwner : PagesConserved running ∧ ∃ t, step running = .next t :=
  ⟨by decide +kernel, _, rfl⟩

theorem test_meets_RecordTableStaysSound : RecordTableSound reading ∧ ∃ t, step reading = .next t :=
  ⟨by decide +kernel, _, rfl⟩

theorem test_meets_IdleStaysQuiet : IdleIsQuiet ready ∧ IdleIsQuiet running ∧ ∃ t, step ready = .next t :=
  ⟨by decide +kernel, by decide +kernel, _, rfl⟩

theorem test_meets_ArmingFollowsAcquisition : ArmedOnlyWhileRunning armed
    ∧ ∃ t, step { armed with pending := [.trigInEdge .rising] } = .next t :=
  ⟨by decide +kernel, _, rfl⟩

theorem test_meets_CapacitiesAreKept : AlarmListSound (alarming 8) ∧ QueuesBounded (alarming 8)
    ∧ CountsBounded (alarming 8) ∧ ∃ t, step (alarming 8) = .next t :=
  ⟨by decide +kernel, by decide +kernel, by decide +kernel, _, rfl⟩

theorem test_meets_PreemptionStaysNested : NestingLegal stacked ∧ ∃ t, step stacked = .next t :=
  ⟨by decide +kernel, _, rfl⟩

end Sys2Proof.Tests
end

section
/-! PROOFS. Capture memory: what every operation keeps of the pages, the record table and the quiet of an IDLE part. -/

namespace Sys2Proof.Machine

/-! ## Tables and lists -/

/-- One entry of a table among the others, which a replacement leaves alone. -/
theorem put_toList_split {α : Type} {n : Nat} (v : Vector α n) (k : Fin n) :
    ∃ before after, v.toList = before ++ v[k] :: after ∧ ∀ x, (put v k x).toList = before ++ x :: after := by
  have hk : k.val < v.toList.length := by simp
  refine ⟨v.toList.take k, v.toList.drop (k + 1), ?_, fun x => ?_⟩
  · rw [Fin.getElem_fin, ← Vector.getElem_toList hk, ← List.drop_eq_getElem_cons hk, List.take_append_drop]
  · simp only [put, Vector.toList_set]
    exact List.set_eq_take_append_cons_drop .. |>.trans (if_pos hk)

/-- A member that a search finds stands behind members that it passes over; a change of the first one picked changes it. -/
theorem changeFirst_split {α : Type} (picks : α → Bool) (l : List α) (x : α) (h : l.find? picks = some x) :
    ∃ before after, l = before ++ x :: after ∧ (∀ y ∈ before, picks y = false)
      ∧ ∀ f, changeFirst picks f l = before ++ f x :: after := by
  induction l with
  | nil => cases h
  | cons y rest ih =>
    by_cases hy : picks y = true
    · obtain rfl : y = x := by simpa [hy] using h
      exact ⟨[], rest, rfl, by simp, fun f => by simp [changeFirst, hy]⟩
    · obtain ⟨before, after, rfl, hb, hf⟩ := ih (by simpa [hy] using h)
      refine ⟨y :: before, after, rfl, ?_, fun f => by simp [changeFirst, hy, hf]⟩
      simpa [hy] using hb

/-- A change that keeps the picking keeps which member is found. -/
theorem find?_changeFirst {α : Type} (picks : α → Bool) (f : α → α) (l : List α) (h : ∀ x, picks (f x) = picks x) :
    (changeFirst picks f l).find? picks = (l.find? picks).map f := by
  induction l with
  | nil => rfl
  | cons x rest ih => by_cases hx : picks x = true <;> simp [changeFirst, hx, h, ih]

/-- A search passes over a change of members that it does not look for. -/
theorem find?_changeFirst_other {α : Type} (picks other : α → Bool) (f : α → α) (l : List α)
    (h : ∀ x, picks x = true → other x = false ∧ other (f x) = false) :
    (changeFirst picks f l).find? other = l.find? other := by
  induction l with
  | nil => rfl
  | cons x rest ih => by_cases hx : picks x = true <;> simp [changeFirst, hx, h, List.find?_cons, ih]

/-- Two changes of the first one picked are one. -/
theorem changeFirst_changeFirst {α : Type} (picks : α → Bool) (f g : α → α) (l : List α)
    (h : ∀ x, picks (f x) = picks x) :
    changeFirst picks g (changeFirst picks f l) = changeFirst picks (fun x => g (f x)) l := by
  induction l with
  | nil => rfl
  | cons x rest ih => by_cases hx : picks x = true <;> simp [changeFirst, hx, h, ih]

/-- A change of the first one picked relates every member to itself, once the change does so to the one found. -/
theorem forall₂_changeFirst {α : Type} (R : α → α → Prop) (refl : ∀ x, R x x) (picks : α → Bool) (f : α → α)
    (l : List α) (h : ∀ x, l.find? picks = some x → R x (f x)) : List.Forall₂ R l (changeFirst picks f l) := by
  induction l with
  | nil => exact .nil
  | cons x rest ih =>
    by_cases hx : picks x = true
    · simp only [changeFirst, hx, if_true]
      exact .cons (h x (by simp [hx])) (List.forall₂_same.mpr fun y _ => refl y)
    · simp only [changeFirst, hx]
      exact .cons (refl x) (ih fun y hy => h y (by simpa [hx] using hy))

/-! ## The owners of the pages (R1, R2) -/

/-- The numbers of some pages. -/
def pageNumbers (pages : List Page) : List Nat := pages.map fun p => p.number

@[simp] theorem pageNumbers_nil : pageNumbers [] = [] := rfl
@[simp] theorem pageNumbers_cons (p : Page) (pages : List Page) :
    pageNumbers (p :: pages) = p.number :: pageNumbers pages := rfl
@[simp] theorem pageNumbers_append (older newer : List Page) :
    pageNumbers (older ++ newer) = pageNumbers older ++ pageNumbers newer := List.map_append
@[simp] theorem pageNumbers_blank (pages : List Page) : pageNumbers (pages.map blankPage) = pageNumbers pages := by
  simp [pageNumbers, blankPage, Function.comp_def]
@[simp] theorem blankPage_number (p : Page) : (blankPage p).number = p.number := rfl

/-- Bytes written to a tail page leave every page in its place. -/
@[simp] theorem pageNumbers_onTail (bytes : List Byte) (pages : List Page) :
    pageNumbers (onTail (writeBytes bytes) pages) = pageNumbers pages := by
  induction pages using onTail.induct with
  | case1 => rfl
  | case2 p => rfl
  | case3 p q rest ih => simp only [onTail, pageNumbers_cons, ih]

/-- A stored sample takes no page and gives none up (R3, R4). -/
@[simp] theorem storeSample_pageNumbers (format : Format) (x : Sample) (run : PageRun) :
    pageNumbers (storeSample format x run).pages = pageNumbers run.pages := by
  cases format
  · simp [storeSample]
  · simp only [storeSample]
    split <;> simp

/-- The encoding of a pending block takes no page (R15). -/
@[simp] theorem encodePending_pageNumbers (run : PageRun) :
    pageNumbers (encodePending run).pages = pageNumbers run.pages := by
  unfold encodePending
  split <;> simp

/-- A ring that recycles keeps its pages (R10). -/
theorem recycle_pageNumbers (run : PageRun) :
    (pageNumbers (recycle run).pages).Perm (pageNumbers run.pages) := by
  unfold recycle
  split
  · exact .refl _
  · next p rest h => simp [h]

@[simp] theorem joinPage_pageNumbers (p : Page) (run : PageRun) :
    pageNumbers (joinPage p run).pages = pageNumbers run.pages ++ [p.number] := by simp [joinPage]

/-- Every page of the part, owner by owner. -/
def heldPages (s : State) : List Page :=
  s.free ++ (s.rings.toList.flatMap fun r => r.run.pages) ++ s.records.flatMap recordPages

theorem ownedPages_eq (s : State) : ownedPages s = pageNumbers (heldPages s) := by
  simp [ownedPages, heldPages, runPages, pageNumbers, recordPages, List.flatMap_map, List.map_flatMap, List.flatMap_assoc]

/-- Pages that pass between the free list and one ring keep one owner each. -/
theorem ownedPages_put_ring (s : State) (k : Fin 16) (ring : Ring) (free : List Page)
    (h : (pageNumbers free ++ pageNumbers ring.run.pages).Perm
      (pageNumbers s.free ++ pageNumbers s.rings[k].run.pages)) :
    (ownedPages { s with free := free, rings := put s.rings k ring }).Perm (ownedPages s) := by
  obtain ⟨before, after, hs, hp⟩ := put_toList_split s.rings k
  refine List.perm_iff_count.mpr fun a => ?_
  have := h.count_eq a
  simp only [List.count_append] at this
  simp only [ownedPages_eq, heldPages, hs, hp, List.flatMap_append, List.flatMap_cons, pageNumbers_append,
    List.count_append]
  omega

/-- Pages that pass between the free list and one part of a record keep one owner each. -/
theorem ownedPages_changePart (s : State) (n : Nat) (k : Fin 16) (f : StreamPart → StreamPart) (free : List Page)
    (r : CaptureRecord) (p : StreamPart) (hr : findRecord n s = some r) (hp : findPart k r = some p)
    (h : (pageNumbers free ++ pageNumbers (f p).run.pages).Perm
      (pageNumbers s.free ++ pageNumbers p.run.pages)) :
    (ownedPages (changePart n k f { s with free := free })).Perm (ownedPages s) := by
  obtain ⟨before, after, hs, -, hc⟩ := changeFirst_split _ _ _ hr
  obtain ⟨older, newer, hq, -, hd⟩ := changeFirst_split _ _ _ hp
  have changed : heldPages (changePart n k f { s with free := free })
      = free ++ (s.rings.toList.flatMap fun r => r.run.pages)
        ++ (before ++ { r with parts := older ++ f p :: newer } :: after).flatMap recordPages := by
    rw [← hd]
    exact congrArg (fun table => free ++ (s.rings.toList.flatMap fun r => r.run.pages) ++ table.flatMap recordPages)
      (hc fun r => { r with parts := changeFirst (fun p => p.stream == k) f r.parts })
  refine List.perm_iff_count.mpr fun a => ?_
  have := h.count_eq a
  simp only [List.count_append] at this
  simp only [ownedPages_eq, changed]
  simp only [heldPages, hs, recordPages, hq, List.flatMap_append, List.flatMap_cons, pageNumbers_append,
    List.count_append]
  omega

/-- The numbers of the pages that a record holds. -/
def recordPageNumbers (r : CaptureRecord) : List Nat := r.parts.flatMap fun p => pageNumbers p.run.pages

theorem pageNumbers_records (l : List CaptureRecord) :
    pageNumbers (l.flatMap recordPages) = (l.map recordPageNumbers).flatten := by
  induction l with
  | nil => rfl
  | cons r rest ih =>
    rw [List.flatMap_cons, pageNumbers_append, ih, List.map_cons, List.flatten_cons]
    simp [pageNumbers, recordPageNumbers, recordPages, List.map_flatMap]

/-- Records that hold the pages they held own the same pages. -/
theorem ownedPages_of_records {s t : State} (hf : t.free = s.free) (hr : t.rings = s.rings)
    (h : t.records.map recordPageNumbers = s.records.map recordPageNumbers) : ownedPages t = ownedPages s := by
  simp only [ownedPages_eq, heldPages, hf, hr, pageNumbers_append, pageNumbers_records, h]

end Sys2Proof.Machine
end

section
namespace Sys2Proof.Machine

/-! ## What an operation keeps -/

/-- The pieces of state that the pages, the record table and the quiet of an IDLE part rest on. -/
structure CaptureView where
  free : List Page
  rings : Vector Ring 16
  sinks : Vector Sink 16
  records : List CaptureRecord
  nextRecord : Nat
  acquisition : AcquisitionState
  round : RoundState
  pacer : Pacer

/-- What a state holds of them. -/
def captureView (s : State) : CaptureView :=
  { free := s.free, rings := s.rings, sinks := s.sinks, records := s.records, nextRecord := s.nextRecord,
    acquisition := s.acquisition, round := s.round, pacer := s.pacer }

/-- A record that is still the same one, with parts of the same streams; it is OPEN only if it was (R42, R46). -/
abbrev RecordKept (r u : CaptureRecord) : Prop :=
  u.number = r.number ∧ (u.parts.map fun p => p.stream) = (r.parts.map fun p => p.stream)
    ∧ (u.state = .opened → r.state = .opened)

/-- A record that samples and triggers may have changed: once closed, it stays as it was closed (R42). -/
abbrev RecordStored (r u : CaptureRecord) : Prop :=
  RecordKept r u ∧ (r.state ≠ .opened → u.state = r.state ∧ u.closeTime = r.closeTime)

/-- A table of the same records. -/
abbrev TableKept (before after : List CaptureRecord) : Prop := List.Forall₂ RecordKept before after

/-- The two invariants of this family, kept from one state to another. -/
abbrev KeepsCapture (s t : State) : Prop :=
  (PagesConserved s → PagesConserved t) ∧ (IdleIsQuiet s → IdleIsQuiet t)

/-- What storing, stopping and closing keep: every owner's pages among them, the records of the table, and the state of
acquisition. Rings, sinks and rounds may change. -/
structure StoreKept (s t : State) : Prop where
  acquisition : t.acquisition = s.acquisition
  nextRecord : t.nextRecord = s.nextRecord
  records : List.Forall₂ RecordStored s.records t.records
  pages : (ownedPages t).Perm (ownedPages s)

theorem keepsCapture_refl (s : State) : KeepsCapture s s := ⟨id, id⟩

theorem keepsCapture_trans {s t u : State} (a : KeepsCapture s t) (b : KeepsCapture t u) : KeepsCapture s u :=
  ⟨b.1 ∘ a.1, b.2 ∘ a.2⟩

/-- Operations that keep the invariants keep them one after another. -/
theorem keepsCapture_foldl {α : Type} (f : State → α → State) (h : ∀ a s, KeepsCapture s (f s a)) (l : List α)
    (s : State) : KeepsCapture s (l.foldl f s) := by
  induction l generalizing s with
  | nil => exact keepsCapture_refl s
  | cons a rest ih => exact keepsCapture_trans (h a s) (ih _)

theorem recordStored_refl (r : CaptureRecord) : RecordStored r r := ⟨⟨rfl, rfl, id⟩, fun _ => ⟨rfl, rfl⟩⟩

theorem recordStored_trans {r u x : CaptureRecord} (a : RecordStored r u) (b : RecordStored u x) : RecordStored r x := by
  obtain ⟨⟨an, as, ao⟩, ac⟩ := a
  obtain ⟨⟨bn, bs, bo⟩, bc⟩ := b
  refine ⟨⟨bn.trans an, bs.trans as, ao ∘ bo⟩, fun h => ?_⟩
  obtain ⟨hs, ht⟩ := ac h
  obtain ⟨hs', ht'⟩ := bc (hs ▸ h)
  exact ⟨hs'.trans hs, ht'.trans ht⟩

theorem forall₂_trans {α : Type} {R : α → α → Prop} (trans : ∀ x y z, R x y → R y z → R x z) {l m n : List α}
    (a : List.Forall₂ R l m) (b : List.Forall₂ R m n) : List.Forall₂ R l n := by
  induction a generalizing n with
  | nil => exact b
  | cons h _ ih =>
    cases b with
    | cons h' b => exact .cons (trans _ _ _ h h') (ih b)

theorem storeKept_refl (s : State) : StoreKept s s :=
  ⟨rfl, rfl, List.forall₂_same.mpr fun r _ => recordStored_refl r, .refl _⟩

theorem storeKept_trans {s t u : State} (a : StoreKept s t) (b : StoreKept t u) : StoreKept s u where
  acquisition := b.acquisition.trans a.acquisition
  nextRecord := b.nextRecord.trans a.nextRecord
  records := forall₂_trans (R := RecordStored) (fun _ _ _ => recordStored_trans) a.records b.records
  pages := b.pages.trans a.pages

theorem storeKept_foldl {α : Type} (f : State → α → State) (h : ∀ a s, StoreKept s (f s a)) (l : List α) (s : State) :
    StoreKept s (l.foldl f s) := by
  induction l generalizing s with
  | nil => exact storeKept_refl s
  | cons a rest ih => exact storeKept_trans (h a s) (ih _)

/-- An operation on other pieces of state. -/
theorem storeKept_of_view {s t : State} (h : captureView t = captureView s) : StoreKept s t where
  acquisition := congrArg CaptureView.acquisition h
  nextRecord := congrArg CaptureView.nextRecord h
  records := by
    rw [show t.records = s.records from congrArg CaptureView.records h]
    exact (storeKept_refl s).records
  pages := .of_eq (ownedPages_of_records (congrArg CaptureView.free h) (congrArg CaptureView.rings h)
    (congrArg (fun v => v.records.map recordPageNumbers) h))

theorem acquisition_of_view {s t : State} (h : captureView t = captureView s) : t.acquisition = s.acquisition :=
  congrArg CaptureView.acquisition h

/-- The same records: numbers, distinct streams and the closed ones. -/
theorem recordNumbers_of_kept {s t : State} (h : TableKept s.records t.records) : recordNumbers t = recordNumbers s := by
  have same := (h.imp fun _ _ a => a.1.symm : List.Forall₂ (fun r u => r.number = u.number) s.records t.records)
  rw [← List.forall₂_map_right_iff (f := fun r : CaptureRecord => r.number), ← List.forall₂_map_left_iff
    (f := fun r : CaptureRecord => r.number), List.forall₂_eq_eq_eq] at same
  exact same.symm

theorem recordNumbersSound_of_kept {s t : State} (h : TableKept s.records t.records) (hn : t.nextRecord = s.nextRecord)
    (hs : RecordNumbersSound s) : RecordNumbersSound t := by
  simpa only [RecordNumbersSound, recordNumbers_of_kept h, hn, ← h.length_eq] using hs

theorem partsDistinct_of_kept {before after : List CaptureRecord} (h : TableKept before after)
    (hs : ∀ r ∈ before, PartsDistinct r) : ∀ r ∈ after, PartsDistinct r := by
  induction h with
  | nil => exact hs
  | cons a _ ih =>
    intro r hr
    rcases List.mem_cons.mp hr with rfl | hr
    · unfold PartsDistinct; rw [a.2.1]; exact hs _ List.mem_cons_self
    · exact ih (fun x hx => hs x (List.mem_cons_of_mem _ hx)) r hr

/-- A record of the table after is one of the table before. -/
theorem mem_of_forall₂ {R : CaptureRecord → CaptureRecord → Prop} {before after : List CaptureRecord}
    (h : List.Forall₂ R before after) {u : CaptureRecord} (hu : u ∈ after) : ∃ r ∈ before, R r u := by
  induction h with
  | nil => cases hu
  | cons a _ ih =>
    rcases List.mem_cons.mp hu with rfl | hu
    · exact ⟨_, List.mem_cons_self, a⟩
    · obtain ⟨r, hr, hk⟩ := ih hu
      exact ⟨r, List.mem_cons_of_mem _ hr, hk⟩

theorem anyOpen_eq_false {s : State} : anyOpen s = false ↔ ∀ r ∈ s.records, r.state ≠ .opened := by
  simp [anyOpen, isOpen]

theorem anyOpen_of_kept {s t : State} (h : TableKept s.records t.records) (hs : anyOpen s = false) :
    anyOpen t = false := by
  rw [anyOpen_eq_false] at hs ⊢
  intro u hu ho
  obtain ⟨r, hr, hk⟩ := mem_of_forall₂ h hu
  exact hs r hr (hk.2.2 ho)

theorem StoreKept.table {s t : State} (h : StoreKept s t) : TableKept s.records t.records :=
  h.records.imp fun _ _ a => a.1

/-- An operation that keeps the pages and the records keeps the invariants if it leaves a quiet part quiet. -/
theorem keepsCapture_of_kept {s t : State} (ha : t.acquisition = s.acquisition) (hn : t.nextRecord = s.nextRecord)
    (hr : TableKept s.records t.records) (hp : (ownedPages t).Perm (ownedPages s))
    (hq : s.acquisition = .idle → Quiet s →
      (∀ k : Fin 16, t.rings[k].run.pages = [] ∧ t.sinks[k] = .none) ∧ t.round = .noRound ∧ t.pacer = .stopped) :
    KeepsCapture s t := by
  refine ⟨hp.trans, fun ⟨hs, hd, hi⟩ => ⟨recordNumbersSound_of_kept hr hn hs, partsDistinct_of_kept hr hd, fun h => ?_⟩⟩
  have quiet := hi (ha.symm.trans h)
  exact ⟨anyOpen_of_kept hr quiet.1, hq (ha.symm.trans h) quiet⟩

/-- Storing, stopping and closing keep the invariants wherever something acquires. -/
theorem keepsCapture_of_storeKept {s t : State} (h : StoreKept s t) (hs : s.acquisition = .idle → ¬ Quiet s) :
    KeepsCapture s t :=
  keepsCapture_of_kept h.acquisition h.nextRecord h.table h.pages fun hi hq => absurd hq (hs hi)

/-- An operation that changes records alone, and opens none. -/
theorem keepsCapture_of_table {s t : State} (h : captureView t = { captureView s with records := t.records })
    (hr : TableKept s.records t.records) (hp : t.records.map recordPageNumbers = s.records.map recordPageNumbers) :
    KeepsCapture s t := by
  have sinks : t.sinks = s.sinks := congrArg CaptureView.sinks h
  have rings : t.rings = s.rings := congrArg CaptureView.rings h
  refine keepsCapture_of_kept (congrArg CaptureView.acquisition h) (congrArg CaptureView.nextRecord h) hr
    (.of_eq (ownedPages_of_records (congrArg CaptureView.free h) rings hp)) fun _ quiet => ?_
  exact ⟨sinks ▸ rings ▸ quiet.2.1, (congrArg CaptureView.round h).trans quiet.2.2.1,
    (congrArg CaptureView.pacer h).trans quiet.2.2.2⟩

theorem keepsCapture_of_view {s t : State} (h : captureView t = captureView s) : KeepsCapture s t := by
  have records : t.records = s.records := congrArg CaptureView.records h
  exact keepsCapture_of_table (h.trans (by rw [records]; rfl)) (storeKept_of_view h).table (by rw [records])

/-! ## The part right after reset -/

theorem pagesConserved_reset : PagesConserved State.reset := by
  have rings : (State.reset.rings.toList.flatMap fun r => r.run.pages) = [] := rfl
  have free : pageNumbers State.reset.free = List.range pageTotal := by
    simp [State.reset, resetFreeList, pageNumbers, Function.comp_def]
  refine .of_eq ?_
  rw [ownedPages_eq, heldPages, rings, pageNumbers_append, pageNumbers_append, free]
  simp [State.reset]

theorem idleIsQuiet_reset : IdleIsQuiet State.reset := by
  refine ⟨by decide, by simp [State.reset], fun _ => ⟨rfl, fun k => ?_, rfl, rfl⟩⟩
  simp [State.reset, emptyRing, emptyRun]

/-- A reset gives both invariants (R21, R50, R132). -/
theorem keepsCapture_reset {s t : State} (h : captureView t = captureView State.reset) : KeepsCapture s t :=
  have kept := keepsCapture_of_view h
  ⟨fun _ => kept.1 pagesConserved_reset, fun _ => kept.2 idleIsQuiet_reset⟩

end Sys2Proof.Machine
end

section
namespace Sys2Proof.Machine

/-! ## Operations on other pieces of state -/

theorem view_foldl {α : Type} (f : State → α → State) (h : ∀ a s, captureView (f s a) = captureView s) (l : List α)
    (s : State) : captureView (l.foldl f s) = captureView s := by
  induction l generalizing s with
  | nil => rfl
  | cons a rest ih => exact (ih _).trans (h a s)

theorem offerNotice_view (n : Notice) (s : State) : captureView (offerNotice n s) = captureView s := by
  obtain ⟨_, _, h, -⟩ := offerNotice_shape n s; rw [h]; rfl

theorem raiseNotice_view (n : Notice) (s : State) : captureView (raiseNotice n s) = captureView s := by
  obtain ⟨_, _, _, h, -⟩ := raiseNotice_shape n s; rw [h]; rfl

theorem countUp_view (id : CounterId) (s : State) : captureView (countUp id s) = captureView s := by
  obtain ⟨_, _, _, h, -⟩ := countUp_shape id s; rw [h]; rfl

theorem countTimes_view (id : CounterId) (n : Nat) (s : State) : captureView (countTimes id n s) = captureView s := by
  induction n generalizing s with
  | zero => rfl
  | succ n ih => exact (ih _).trans (countUp_view id s)

theorem sendFiring_view (profile : Option (Fin 4)) (alarm : Bool) (source : TriggerSource) (time : Time)
    (sample : Option TriggerSample) (s : State) :
    captureView (sendFiring profile alarm source time sample s) = captureView s := by
  obtain ⟨_, _, h⟩ := sendFiring_shape profile alarm source time sample s; rw [h]; rfl

theorem fireWatch_view (w : Fin 8) (s : State) : captureView (fireWatch w s) = captureView s := by
  unfold fireWatch
  split
  · rfl
  · exact sendFiring_view _ _ _ _ _ s

theorem endHoldoff_view (w : Fin 8) (s : State) : captureView (endHoldoff w s) = captureView s := by
  unfold endHoldoff; split <;> rfl

theorem settleWatches_view (s : State) : captureView (settleWatches s) = captureView s := by
  obtain ⟨_, _, _, h⟩ := settleWatches_shape s; rw [h]; rfl

theorem fireExternal_view (s : State) : captureView (fireExternal s) = captureView s := sendFiring_view _ _ _ _ _ s

theorem chooseFrame_view (s : State) : captureView (chooseFrame s) = captureView s := by
  obtain ⟨_, _, h⟩ := chooseFrame_shape s; rw [h]; rfl

theorem decideIdle_view (s : State) : captureView (decideIdle s) = captureView s := by
  unfold decideIdle
  split
  · exact chooseFrame_view s
  · rfl

theorem conclude_view (s : State) : captureView (conclude s) = captureView s := by
  obtain ⟨_, _, _, _, _, _, h⟩ := conclude_shape s; rw [h]; rfl

theorem makeOutput_view (k : Fin 16) (raw : RawSample) (s : State) :
    captureView (makeOutput k raw s) = captureView s := by
  obtain h | h := makeOutput_cases k raw s <;> rw [h]
  · rfl
  · exact countUp_view _ _

theorem drawRounding_view (slot : Slot) (level : Nat) (s : State) :
    captureView (drawRounding slot level s) = captureView s := by unfold drawRounding; split <;> rfl

theorem queueReply_view (r : Request) (status : Status) (data : List Byte) (s : State) :
    captureView (queueReply r status data s) = captureView s := decideIdle_view _

theorem discardHeld_view (s : State) : captureView (discardHeld s) = captureView s := by
  obtain ⟨_, h⟩ := discardHeld_shape s; rw [h]; rfl

theorem offerHeld_view (s : State) : captureView (offerHeld s) = captureView s :=
  view_foldl _ (fun n t => offerNotice_view n t) _ _

/-! ## The history rings (R9 to R12, R19) -/

/-- A ring emptied: its pages return (R12). -/
theorem emptyRingOf_pages (k : Fin 16) (s : State) : (ownedPages (emptyRingOf k s)).Perm (ownedPages s) := by
  rw [emptyRingOf_eq]
  exact ownedPages_put_ring s k emptyRing _ (by simp [emptyRing, emptyRun])

theorem emptyRingOf_storeKept (k : Fin 16) (s : State) : StoreKept s (emptyRingOf k s) :=
  ⟨rfl, rfl, (storeKept_refl s).records, emptyRingOf_pages k s⟩

theorem emptyAllRings_storeKept (s : State) : StoreKept s (emptyAllRings s) :=
  storeKept_foldl _ (fun k t => emptyRingOf_storeKept k t) _ s

/-- What a sample delivered to a ring does with the pages (R10, R11). -/
theorem ringStore_pages (k : Fin 16) (x : Sample) (s : State) :
    (ownedPages (ringStore k x s)).Perm (ownedPages s) := by
  have stored (run : PageRun) (starved : Bool) (h : (pageNumbers run.pages).Perm (pageNumbers s.rings[k].run.pages)) :
      (ownedPages (setRing k { run := storeSample s.streams[k].format x run, starved := starved } s)).Perm
        (ownedPages s) :=
    ownedPages_put_ring s k _ s.free (by simpa using h.append_left (pageNumbers s.free))
  unfold ringStore
  split
  · exact stored _ _ (.refl _)
  · split
    · unfold ringGrow
      split
      · next p t ht =>
        obtain ⟨rest, hf, -, rfl⟩ := takePage_some _ _ _ _ ht
        refine ownedPages_put_ring s k _ rest ?_
        simp [hf, ← List.append_assoc]
      · split
        · exact (storeKept_of_view (countUp_view _ s)).pages
        · exact stored _ _ (recycle_pageNumbers _)
    · exact stored _ _ (recycle_pageNumbers _)

theorem ringStore_storeKept (k : Fin 16) (x : Sample) (s : State) : StoreKept s (ringStore k x s) := by
  obtain ⟨free, rings, h⟩ | h := ringStore_shape k x s
  · exact ⟨by rw [h], by rw [h], by rw [h]; exact (storeKept_refl s).records, ringStore_pages k x s⟩
  · rw [h]; exact storeKept_of_view (countUp_view _ s)

end Sys2Proof.Machine
end

section
namespace Sys2Proof.Machine

/-! ## Collecting and closing (R13 to R15, R39 to R42) -/

/-- A change of a record that the search for it finds again. -/
theorem changeRecord_forall₂ (n : Nat) (f : CaptureRecord → CaptureRecord) (s : State)
    (h : ∀ r, findRecord n s = some r → RecordStored r (f r)) :
    List.Forall₂ RecordStored s.records (changeRecord n f s).records :=
  forall₂_changeFirst RecordStored recordStored_refl _ f s.records h

/-- A change of a part that keeps its stream keeps the streams of its record. -/
theorem recordStored_changePart (k : Fin 16) (f : StreamPart → StreamPart) (hf : ∀ p, (f p).stream = p.stream)
    (r : CaptureRecord) : RecordStored r { r with parts := changeFirst (fun p => p.stream == k) f r.parts } :=
  ⟨⟨rfl, changeFirst_map _ f _ r.parts fun p _ => hf p, id⟩, fun _ => ⟨rfl, rfl⟩⟩

/-- A change of a record that leaves its pages in place. -/
theorem changeRecord_pages (n : Nat) (f : CaptureRecord → CaptureRecord) (s : State)
    (h : ∀ r, recordPageNumbers (f r) = recordPageNumbers r) :
    (changeRecord n f s).records.map recordPageNumbers = s.records.map recordPageNumbers :=
  changeFirst_map _ f _ s.records fun r _ => h r

theorem changeRecord_storeKept (n : Nat) (f : CaptureRecord → CaptureRecord) (s : State)
    (h : ∀ r, findRecord n s = some r → RecordStored r (f r))
    (hp : ∀ r, recordPageNumbers (f r) = recordPageNumbers r) : StoreKept s (changeRecord n f s) :=
  ⟨rfl, rfl, changeRecord_forall₂ n f s h, .of_eq (ownedPages_of_records rfl rfl (changeRecord_pages n f s hp))⟩

/-- A change of a part that keeps its stream and its pages. -/
theorem changePart_storeKept (n : Nat) (k : Fin 16) (f : StreamPart → StreamPart) (s : State)
    (hf : ∀ p, (f p).stream = p.stream) (hp : ∀ p, pageNumbers (f p).run.pages = pageNumbers p.run.pages) :
    StoreKept s (changePart n k f s) := by
  refine changeRecord_storeKept n _ s (fun r _ => recordStored_changePart k f hf r) fun r => ?_
  have same := changeFirst_map (fun p => p.stream == k) f (fun p => pageNumbers p.run.pages) r.parts fun p _ => hp p
  simp only [recordPageNumbers, List.flatMap_def, same]

theorem changeFlags_storeKept (n : Nat) (f : RecordFlags → RecordFlags) (s : State) :
    StoreKept s (changeFlags n f s) :=
  changeRecord_storeKept n _ s (fun r _ => recordStored_refl r) fun _ => rfl

/-- A stream that stops collecting: its part keeps its pages and its ring gives its own back (R15). -/
theorem stopCollecting_storeKept (n : Nat) (k : Fin 16) (s : State) : StoreKept s (stopCollecting n k s) := by
  have part := changePart_storeKept n k
    (fun p => { p with run := encodePending p.run, collecting := false, remaining := 0 }) s (fun _ => rfl)
    fun p => encodePending_pageNumbers p.run
  have ring := storeKept_trans part (emptyRingOf_storeKept k _)
  exact ⟨ring.acquisition, ring.nextRecord, ring.records, ring.pages⟩

/-- A record that closes is the OPEN one that the search finds (R42). -/
theorem closeIfDone_storeKept (n : Nat) (s : State) : StoreKept s (closeIfDone n s) := by
  obtain h | ⟨r, hr, ho, -, h⟩ := closeIfDone_cases n s <;> rw [h]
  · exact storeKept_refl s
  · have hn : r.number = n := by simpa using List.find?_some hr
    subst hn
    refine storeKept_trans (changeRecord_storeKept r.number
      (fun x => { x with state := .closed, closeTime := some s.clock.timebase }) s (fun x hx => ?_) fun _ => rfl)
      (storeKept_of_view (raiseNotice_view _ _))
    obtain rfl : r = x := Option.some.inj (hr.symm.trans hx)
    exact ⟨⟨rfl, rfl, nofun⟩, fun hc => absurd ho hc⟩

theorem cutWindow_storeKept (n : Nat) (k : Fin 16) (s : State) : StoreKept s (cutWindow n k s) :=
  storeKept_trans (stopCollecting_storeKept n k s) (storeKept_trans (changeFlags_storeKept n _ _)
    (storeKept_trans (storeKept_of_view (countUp_view _ _)) (closeIfDone_storeKept n _)))

/-- A post sample: on the tail page, on a granted page, or the window is cut (R13, R14). -/
theorem captureStore_storeKept (n : Nat) (k : Fin 16) (x : Sample) (s : State) :
    StoreKept s (captureStore n k x s) := by
  unfold captureStore
  split
  · exact storeKept_refl s
  · next p hp =>
    obtain ⟨r, hr, hp⟩ := Option.bind_eq_some_iff.mp hp
    have stored (run : PageRun) (free : List Page)
        (h : (pageNumbers free ++ pageNumbers run.pages).Perm (pageNumbers s.free ++ pageNumbers p.run.pages)) :
        StoreKept s (changePart n k (countPost run) { s with free := free }) :=
      ⟨rfl, rfl, changeRecord_forall₂ n _ _ fun r _ => recordStored_changePart k (countPost run) (fun _ => rfl) r,
        ownedPages_changePart s n k _ free r p hr hp h⟩
    split
    · exact stored _ s.free (by simp)
    · split
      · next page t ht =>
        obtain ⟨rest, hf, -, rfl⟩ := takePage_some _ _ _ _ ht
        exact stored _ rest (by simp [hf, ← List.append_assoc])
      · exact cutWindow_storeKept n k s

/-! ## The decision at a trigger (R24 to R34) -/

theorem retriggered_stored (profile : Profile) (t : Trigger) (r : CaptureRecord) :
    RecordStored r (retriggered profile t r) ∧ recordPageNumbers (retriggered profile t r) = recordPageNumbers r := by
  have extended (p : StreamPart) : (extendPart profile.postCount p).stream = p.stream
      ∧ (extendPart profile.postCount p).run = p.run := by
    unfold extendPart; split <;> exact ⟨rfl, rfl⟩
  unfold retriggered
  split
  · cases profile.extend
    · exact ⟨recordStored_refl r, rfl⟩
    · refine ⟨⟨⟨rfl, ?_, id⟩, fun _ => ⟨rfl, rfl⟩⟩, ?_⟩
      · simp [Function.comp_def, extended]
      · simp [recordPageNumbers, List.flatMap_map, extended]
  · exact ⟨recordStored_refl r, rfl⟩

/-- Pages that a ring hands over and pages that it gives back are its pages (R16). -/
theorem handedRun_pages (profile : Profile) (k : Fin 16) (s : State) :
    returnedPages profile k s ++ (partOf profile k s).run.pages = s.rings[k].run.pages := by
  simp only [returnedPages, partOf, handedRun, splitRing]
  split
  · next h => rw [h]; simp [emptyRun]
  · exact List.take_append_drop _ _

/-- The handovers of an opening: every page of the rings stands on the free list, in a ring or in a new part. -/
theorem handOverAll_pages (number : Nat) (profile : Profile) (streams : List (Fin 16)) (s : State) :
    (ownedPages (handOverAll number profile streams s).2
        ++ (handOverAll number profile streams s).1.flatMap fun p => pageNumbers p.run.pages).Perm (ownedPages s) := by
  induction streams generalizing s with
  | nil => simp [handOverAll]
  | cons k rest ih =>
    have whole := congrArg pageNumbers (handedRun_pages profile k s)
    have first : (ownedPages (handOver number profile k s) ++ pageNumbers (partOf profile k s).run.pages).Perm
        (ownedPages s) := by
      obtain ⟨before, after, hs, hp⟩ := put_toList_split s.rings k
      have given : heldPages (handOver number profile k s)
          = (s.free ++ (returnedPages profile k s).map blankPage)
            ++ (before ++ emptyRing :: after).flatMap (fun r => r.run.pages) ++ s.records.flatMap recordPages := by
        rw [← hp]; rfl
      refine List.perm_iff_count.mpr fun a => ?_
      have := congrArg (List.count a) whole
      simp only [pageNumbers_append, List.count_append] at this
      simp only [ownedPages_eq, given]
      simp only [heldPages, hs, List.flatMap_append, List.flatMap_cons, pageNumbers_append, pageNumbers_blank,
        List.count_append, emptyRing, emptyRun, pageNumbers_nil, List.count_nil]
      omega
    refine List.perm_iff_count.mpr fun a => ?_
    have h₁ := first.count_eq a
    have h₂ := (ih (handOver number profile k s)).count_eq a
    simp only [List.count_append] at h₁ h₂
    simp only [handOverAll, List.flatMap_cons, List.count_append]
    omega

end Sys2Proof.Machine
end

section
namespace Sys2Proof.Machine

/-! ## The numbers tried by an opening (R33) -/

/-- The record number that comes some places after another, 65535 being followed by 1. -/
def numberAt (next j : Nat) : Nat := (next - 1 + j) % 65535 + 1

theorem numbersFrom_eq (count next : Nat) (h : 1 ≤ next) (h' : next ≤ 65535) :
    numbersFrom count next = (List.range count).map (numberAt next) := by
  induction count generalizing next with
  | zero => rfl
  | succ count ih =>
    have first : numberAt next 0 = next := by simp only [numberAt]; omega
    have shift : ∀ j, numberAt (numberAfter next) j = numberAt next (j + 1) := by
      intro j; simp only [numberAt, numberAfter]; split <;> omega
    have bounds : 1 ≤ numberAfter next ∧ numberAfter next ≤ 65535 := by unfold numberAfter; split <;> omega
    rw [numbersFrom, ih _ bounds.1 bounds.2, List.range_succ_eq_map]
    simp [first, shift, Function.comp_def]

theorem numberAt_inj {next i j : Nat} (hi : i < 65535) (hj : j < 65535) (h : numberAt next i = numberAt next j) :
    i = j := by
  simp only [numberAt] at h; omega

/-- Numbers tried in turn that are all taken are no more than the numbers taken. -/
theorem tried_le_taken (next j : Nat) (taken : List Nat) (hj : j ≤ 65535) (h : ∀ m < j, numberAt next m ∈ taken) :
    j ≤ taken.length := by
  have distinct : ((List.range j).map (numberAt next)).Nodup :=
    List.Nodup.map_on (fun a ha b hb e => numberAt_inj (by simp at ha; omega) (by simp at hb; omega) e)
      List.nodup_range
  have within : (List.range j).map (numberAt next) ⊆ taken := by
    intro n hn
    obtain ⟨m, hm, rfl⟩ := List.mem_map.mp hn
    exact h m (List.mem_range.mp hm)
  simpa using (distinct.subperm within).length_le

/-- The number an opening takes is the first, from the next record number on, that no record has. -/
theorem freshNumber_spec (s : State) (h : RecordNumbersSound s) :
    ∃ j ≤ s.records.length, freshNumber s = numberAt s.nextRecord j ∧ numberAt s.nextRecord j ∉ recordNumbers s
      ∧ ∀ m < j, numberAt s.nextRecord m ∈ recordNumbers s := by
  obtain ⟨hlen, -, -, h₁, h₂⟩ := h
  have length : (recordNumbers s).length = s.records.length := List.length_map _
  have taken : ∀ n, (s.records.any fun r => r.number == n) = decide (n ∈ recordNumbers s) := by
    intro n; simp [recordNumbers, List.any_eq]
  simp only [freshNumber, numbersFrom_eq _ _ h₁ h₂, taken, List.find?_map]
  cases found : (List.range (recordTotal + 1)).find? ((fun n => !decide (n ∈ recordNumbers s)) ∘ numberAt s.nextRecord) with
  | none =>
    have all := tried_le_taken s.nextRecord (recordTotal + 1) (recordNumbers s) (by decide) fun m hm => by
      simpa using List.find?_eq_none.mp found m (List.mem_range.mpr hm)
    omega
  | some j =>
    obtain ⟨hj, hr, before⟩ := List.find?_range_eq_some.mp found
    simp only [Function.comp_apply, Bool.not_eq_true', decide_eq_false_iff_not, decide_eq_true_eq,
      Bool.not_not] at hj before
    refine ⟨j, ?_, rfl, hj, before⟩
    rw [← length]
    have := List.mem_range.mp hr
    exact tried_le_taken _ _ _ (by simp only [recordTotal] at this; omega) before

theorem freshNumber_sound (s : State) (h : RecordNumbersSound s) :
    1 ≤ freshNumber s ∧ freshNumber s ≤ 65535 ∧ freshNumber s ∉ recordNumbers s := by
  obtain ⟨j, -, e, hn, -⟩ := freshNumber_spec s h
  rw [e]
  refine ⟨by simp [numberAt], ?_, hn⟩
  simp only [numberAt]; omega

/-! ## Openings and discards (R29 to R34) -/

theorem includedStreams_nodup (mask : StreamMask) (s : State) : (includedStreams mask s).Nodup :=
  ((by decide : allStreams.Nodup).filter _).filter _

/-- An opening, with its parts and its handovers by name (R32 to R34). -/
theorem openRecordFor_handOver (t : Trigger) (s : State) :
    ∃ record : CaptureRecord, ∃ u parts,
      handOverAll (freshNumber s) s.profiles[t.profile] (includedStreams s.profiles[t.profile].mask s) s = (parts, u)
      ∧ record.number = freshNumber s ∧ record.parts = parts
      ∧ (openRecordFor t s).1 = { u with
          records := u.records ++ [record]
          nextRecord := numberAfter (freshNumber s)
          openRecord := put u.openRecord t.profile (some (freshNumber s))
          pins := { u.pins with trigOut := some trigOutPulse } } :=
  ⟨_, _, _, rfl, rfl, rfl, rfl⟩

/-- The pages of an opening's record come from the rings; the others return (R16). -/
theorem openRecordFor_pages (t : Trigger) (s : State) : (ownedPages (openRecordFor t s).1).Perm (ownedPages s) := by
  obtain ⟨record, u, parts, hh, -, hp, e⟩ := openRecordFor_handOver t s
  have handed := handOverAll_pages (freshNumber s) s.profiles[t.profile]
    (includedStreams s.profiles[t.profile].mask s) s
  rw [hh] at handed
  rw [e]
  refine .trans (.of_eq ?_) handed
  simp only [ownedPages_eq, heldPages, List.flatMap_append, pageNumbers_append, pageNumbers_records, List.map_cons,
    List.map_nil, List.flatten_cons, List.flatten_nil, recordPageNumbers, hp, List.append_nil, List.append_assoc]

/-- An opening with room in the table, in a part that runs. -/
theorem openRecordFor_idleIsQuiet (t : Trigger) (s : State) (hr : s.acquisition = .running)
    (hl : s.records.length < recordTotal) (h : IdleIsQuiet s) : IdleIsQuiet (openRecordFor t s).1 := by
  obtain ⟨record, u, parts, hh, hn, hp, e⟩ := openRecordFor_handOver t s
  obtain ⟨parts', free, rings, sinks, hs, streams⟩ := handOverAll_shape (freshNumber s) s.profiles[t.profile]
    (includedStreams s.profiles[t.profile].mask s) s
  obtain ⟨rfl, rfl⟩ : parts' = parts ∧ u = { s with free := free, rings := rings, sinks := sinks } := by
    rw [hh] at hs; exact ⟨(congrArg Prod.fst hs).symm, congrArg Prod.snd hs⟩
  rw [e]
  obtain ⟨sound, distinct, -⟩ := h
  obtain ⟨h₁, h₂, hfresh⟩ := freshNumber_sound s sound
  obtain ⟨-, nodup, range, -, -⟩ := sound
  refine ⟨⟨?_, ?_, ?_, ?_⟩, ?_, fun hi => ?_⟩
  · simpa using hl
  · simpa [recordNumbers, hn, List.nodup_append] using ⟨nodup, fun r hr e => hfresh (e ▸ List.mem_map_of_mem hr)⟩
  · intro n hm
    simp only [recordNumbers, List.map_append, List.map_cons, List.map_nil, List.mem_append, List.mem_singleton,
      hn] at hm
    rcases hm with hm | rfl
    · exact range n hm
    · exact ⟨h₁, h₂⟩
  · simp only [numberAfter]; split <;> omega
  · intro r hm
    rcases List.mem_append.mp hm with hm | hm
    · exact distinct r hm
    · rw [List.mem_singleton.mp hm, PartsDistinct, hp, streams]
      exact includedStreams_nodup _ s
  · rw [show s.acquisition = .idle from hi] at hr; cases hr

/-- A removal gives the record's pages back (R18, R47, R49). -/
theorem removeRecord_keeps (n : Nat) (s : State) : KeepsCapture s (removeRecord n s) := by
  rw [removeRecord_eq]
  refine ⟨fun h => .trans ?_ h, fun ⟨⟨hl, hn, hb, hx⟩, hd, hq⟩ => ⟨⟨?_, ?_, ?_, hx⟩, ?_, fun hi => ?_⟩⟩
  · have split := List.filter_append_perm (fun r : CaptureRecord => r.number == n) s.records
    have whole := (split.map recordPages).flatten
    refine List.perm_iff_count.mpr fun a => ?_
    have := (whole.map fun p : Page => p.number).count_eq a
    simp only [← List.flatMap_def, List.flatMap_append] at this
    simp only [ownedPages_eq, heldPages, pageNumbers_append, pageNumbers_blank, List.count_append]
    simp only [← pageNumbers.eq_1, pageNumbers_append, List.count_append] at this
    omega
  · exact (List.length_filter_le _ _).trans hl
  · exact hn.sublist (List.filter_sublist.map _)
  · exact fun m hm => hb m ((List.filter_sublist.map _).subset hm)
  · exact fun r hr => hd r (List.mem_of_mem_filter hr)
  · obtain ⟨ho, rest⟩ := hq hi
    exact ⟨anyOpen_eq_false.mpr fun r hr => anyOpen_eq_false.mp ho r (List.mem_of_mem_filter hr), rest⟩

theorem discardRecord_view (n : Nat) (s : State) : captureView (discardRecord n s) = captureView (removeRecord n s) :=
  (raiseNotice_view _ _).trans (countUp_view _ _)

theorem discardRecord_keeps (n : Nat) (s : State) : KeepsCapture s (discardRecord n s) :=
  keepsCapture_trans (removeRecord_keeps n s) (keepsCapture_of_view (discardRecord_view n s))

/-- The discard of a record of the table makes room (R31). -/
theorem discardRecord_length (s : State) (r : CaptureRecord) (h : discardCandidate s = some r)
    (hl : s.records.length ≤ recordTotal) : (discardRecord r.number s).records.length < recordTotal := by
  have records : (discardRecord r.number s).records = s.records.filter fun x => !(x.number == r.number) :=
    congrArg CaptureView.records (discardRecord_view r.number s)
  rw [records]
  refine lt_of_lt_of_le ?_ hl
  exact List.length_filter_lt_length_iff_exists.mpr ⟨r, List.mem_of_find?_eq_some h, by simp⟩

/-- The decision at a trigger that is taken while RUNNING (R27 to R32). -/
theorem decideTrigger_keeps (t : Trigger) (s : State) (h : s.acquisition = .running) :
    KeepsCapture s (decideTrigger t s).1 := by
  have busy : s.acquisition = .idle → ¬ Quiet s := fun hi => by rw [h] at hi; cases hi
  obtain ⟨n, -, e⟩ | e | e | ⟨hl, e⟩ | ⟨r, hr, e⟩ := decideTrigger_cases t s <;> rw [e]
  · exact keepsCapture_of_storeKept (changeRecord_storeKept n _ s (fun r _ => (retriggered_stored _ t r).1)
      fun r => (retriggered_stored _ t r).2) busy
  · exact keepsCapture_of_view (countUp_view _ s)
  · exact keepsCapture_of_view (countUp_view _ s)
  · exact ⟨(openRecordFor_pages t s).trans, openRecordFor_idleIsQuiet t s h hl⟩
  · have kept := discardRecord_keeps r.number s
    have running : (discardRecord r.number s).acquisition = .running :=
      (congrArg CaptureView.acquisition (discardRecord_view r.number s)).trans h
    exact ⟨fun hp => (openRecordFor_pages t _).trans (kept.1 hp), fun hi =>
      openRecordFor_idleIsQuiet t _ running (discardRecord_length s r hr hi.1.1) (kept.2 hi)⟩

theorem takeTrigger_keeps (t : Trigger) (s : State) : KeepsCapture s (takeTrigger t s) := by
  obtain e | ⟨h, -, e⟩ := takeTrigger_cases t s <;> rw [e]
  · exact keepsCapture_of_view rfl
  · exact keepsCapture_trans (decideTrigger_keeps t s h) (keepsCapture_of_view rfl)

/-- Outside RUNNING a trigger is LOST (R26). -/
theorem takeTrigger_view (t : Trigger) (s : State) (h : s.acquisition ≠ .running) :
    captureView (takeTrigger t s) = captureView s := by
  obtain e | ⟨hr, -⟩ := takeTrigger_cases t s
  · rw [e]; rfl
  · exact absurd hr h

end Sys2Proof.Machine
end

section
namespace Sys2Proof.Machine

/-! ## Deliveries (R8, R75, R117) -/

/-- A store stage changes storage alone; a stream that stores acquires. -/
theorem storeStage_storeKept (x : FilteredSample) (s : State) : StoreKept s (storeStage x s) := by
  unfold storeStage
  split
  · exact ringStore_storeKept _ _ s
  · exact captureStore_storeKept _ _ _ s
  · exact storeKept_refl s

theorem not_quiet_of_sink {s : State} {k : Fin 16} (h : s.sinks[k] ≠ .none) : ¬ Quiet s :=
  fun ⟨_, quiet, _⟩ => h (quiet k).2

theorem storeStage_keeps (x : FilteredSample) (s : State) : KeepsCapture s (storeStage x s) := by
  by_cases h : s.sinks[x.stream] = .none
  · exact keepsCapture_of_view (by simp only [storeStage, h])
  · exact keepsCapture_of_storeKept (storeStage_storeKept x s) fun _ => not_quiet_of_sink h

theorem takeStreamTriggers_keeps (k : Fin 16) (s : State) : KeepsCapture s (takeStreamTriggers k s) := by
  unfold takeStreamTriggers
  exact keepsCapture_trans (t := { s with triggers := s.triggers.filter fun x => !ofStream k x })
    (keepsCapture_of_view rfl) (keepsCapture_foldl _
      (fun x t => keepsCapture_trans (takeTrigger_keeps x t) (keepsCapture_of_view (conclude_view _))) _ _)

theorem takeStreamTriggers_view (k : Fin 16) (s : State) (h : s.acquisition ≠ .running) :
    captureView (takeStreamTriggers k s) = captureView s := by
  have all : ∀ (l : List Trigger) (u : State), u.acquisition ≠ .running →
      captureView (l.foldl (fun t x => conclude (takeTrigger x t)) u) = captureView u := by
    intro l
    induction l with
    | nil => exact fun u _ => rfl
    | cons x rest ih =>
      intro u hu
      have same := (conclude_view (takeTrigger x u)).trans (takeTrigger_view x u hu)
      have still : (conclude (takeTrigger x u)).acquisition ≠ .running := by rwa [acquisition_of_view same]
      rw [List.foldl_cons]
      exact (ih _ still).trans same
  unfold takeStreamTriggers
  exact (all _ { s with triggers := s.triggers.filter fun x => !ofStream k x } h).trans rfl

theorem storeOutput_keeps (k : Fin 16) (raw : RawSample) (s : State) : KeepsCapture s (storeOutput k raw s) :=
  keepsCapture_trans (takeStreamTriggers_keeps k s)
    (keepsCapture_trans (keepsCapture_of_view (makeOutput_view k raw _)) (storeStage_keeps _ _))

/-- Outside RUNNING a delivery opens no record. -/
theorem deliver_storeKept (k : Fin 16) (s : State) (h : s.acquisition ≠ .running) : StoreKept s (deliver k s) := by
  unfold deliver
  split
  · exact storeKept_refl s
  · next raw _ =>
    exact storeKept_trans (storeKept_of_view ((makeOutput_view k raw _).trans (takeStreamTriggers_view k s h)))
      (storeKept_trans (storeStage_storeKept _ _) (storeKept_of_view rfl))

theorem deliverDue_storeKept (k : Fin 16) (s : State) (h : s.acquisition ≠ .running) :
    StoreKept s (deliverDue k s) := by
  unfold deliverDue
  split
  · have before : captureView (conclude s) = captureView s := conclude_view s
    have delivered := deliver_storeKept k (conclude s) (by rwa [acquisition_of_view before])
    exact storeKept_trans (storeKept_of_view before) (storeKept_trans delivered
      (storeKept_of_view ((settleWatches_view _).trans (conclude_view _))))
  · exact storeKept_refl s

theorem deliverOutstanding_storeKept (s : State) (h : s.acquisition ≠ .running) :
    StoreKept s (deliverOutstanding s) := by
  have all : ∀ (l : List (Fin 16)) (u : State), u.acquisition ≠ .running →
      StoreKept u (l.foldl (fun t k => deliverDue k t) u) := by
    intro l
    induction l with
    | nil => exact fun u _ => storeKept_refl u
    | cons k rest ih =>
      intro u hu
      have first := deliverDue_storeKept k u hu
      have still : (deliverDue k u).acquisition ≠ .running := by rwa [first.acquisition]
      exact storeKept_trans first (ih _ still)
  exact all _ s h

/-! ## The arrival at IDLE (R101, R119, R130) -/

theorem allStreams_eq : allStreams = List.finRange 16 := by decide

/-- The entries of a table, in order. -/
theorem toList_eq_map {α : Type} {n : Nat} (v : Vector α n) : v.toList = (List.finRange n).map fun k => v[k] := by
  refine List.ext_getElem (by simp) fun i h₁ h₂ => ?_
  simp

/-- Rings that give up their pages one after another (R12). -/
theorem foldl_emptyRingOf (l : List (Fin 16)) (hl : l.Nodup) (s : State) :
    l.foldl (fun t k => emptyRingOf k t) s
      = { s with
          free := s.free ++ (l.flatMap fun k => s.rings[k].run.pages).map blankPage
          rings := Vector.ofFn fun k => if k ∈ l then emptyRing else s.rings[k] } := by
  induction l generalizing s with
  | nil => simp
  | cons j rest ih =>
    obtain ⟨hj, hrest⟩ := List.nodup_cons.mp hl
    rw [List.foldl_cons, ih hrest, emptyRingOf_eq]
    have others : (rest.flatMap fun k => (put s.rings j emptyRing)[k].run.pages)
        = rest.flatMap fun k => s.rings[k].run.pages := by
      refine List.flatMap_congr fun k hk => ?_
      rw [put_other _ _ _ _ fun e => hj (by rwa [← e])]
    congr 1
    · simp only [others, List.flatMap_cons, List.map_append, List.append_assoc]
    · congr 1
      funext k
      rw [put_get]
      by_cases hk : k ∈ rest <;> by_cases e : k = j <;> simp [hk, e]

/-- Every ring gives up its pages, in ascending stream number (R19). -/
theorem emptyAllRings_eq (s : State) :
    emptyAllRings s = { s with free := s.free ++ ringPages s, rings := Vector.replicate 16 emptyRing } := by
  have rings : (Vector.ofFn fun k => if k ∈ List.finRange 16 then emptyRing else s.rings[k])
      = Vector.replicate 16 emptyRing := by
    ext i hi; simp
  simp only [emptyAllRings, allStreams_eq, foldl_emptyRingOf _ (List.nodup_finRange 16), rings, ringPages,
    toList_eq_map s.rings, List.flatMap_map]

/-- The steps of R130 and the notice that ends them. -/
theorem reachIdle_eq (reason : IdleReason) (s : State) :
    reachIdle reason s
      = raiseNotice (.acquisitionIdle reason s.clock.timebase s.records.length) (quieted s) := by
  simp only [reachIdle, emptyAllRings_eq]
  rfl

/-- The part after the steps of R130 holds the pages it held. -/
theorem quieted_pages (s : State) : (ownedPages (quieted s)).Perm (ownedPages s) := by
  have emptied := (emptyAllRings_storeKept s).pages
  rw [emptyAllRings_eq] at emptied
  exact emptied

/-- Once no record is OPEN, the steps of R130 quiet the part. -/
theorem quieted_quiet {s : State} (h : anyOpen s = false) : Quiet (quieted s) :=
  ⟨h, fun k => by simp [quieted, emptyRing, emptyRun], rfl, rfl⟩

theorem quieted_keeps (s : State) (h : anyOpen s = false) : KeepsCapture s (quieted s) :=
  ⟨(quieted_pages s).trans, fun ⟨sound, distinct, _⟩ => ⟨sound, distinct, fun _ => quieted_quiet h⟩⟩

theorem reachIdle_keeps (reason : IdleReason) (s : State) (h : anyOpen s = false) :
    KeepsCapture s (reachIdle reason s) := by
  rw [reachIdle_eq]
  exact keepsCapture_trans (quieted_keeps s h) (keepsCapture_of_view (raiseNotice_view _ _))

/-- The drain ends once no record is OPEN (R43, R128). -/
theorem endDrain_keeps (s : State) : KeepsCapture s (endDrain s) := by
  unfold endDrain
  split
  · next h =>
    simp only [Bool.and_eq_true, decide_eq_true_eq, Bool.not_eq_true'] at h
    obtain ⟨draining, closed⟩ := h
    have delivered := deliverOutstanding_storeKept s (by simp [draining])
    unfold arriveIdle
    exact keepsCapture_trans (keepsCapture_of_storeKept delivered fun hi => by simp [draining] at hi)
      (reachIdle_keeps _ _ (anyOpen_of_kept delivered.table closed))
  · exact keepsCapture_refl s

/-! ## The steps that follow at once (R39, R75, R77; log 1) -/

theorem capturing_eq_some {k : Fin 16} {n : Nat} {s : State} : capturing k s = some n ↔ s.sinks[k] = .capture n := by
  unfold capturing
  cases s.sinks[k] <;> simp

/-- What a stream is collecting for: the record that its sink names, with its part in it (R7). -/
theorem collectingPart_eq_some {k : Fin 16} {n : Nat} {p : StreamPart} {s : State} :
    collectingPart k s = some (n, p) ↔
      s.sinks[k] = .capture n ∧ ∃ r, findRecord n s = some r ∧ findPart k r = some p := by
  simp only [collectingPart, Option.bind_eq_some_iff, Option.map_eq_some_iff, capturing_eq_some, Prod.mk.injEq]
  constructor
  · rintro ⟨m, hs, q, ⟨r, hr, hp⟩, rfl, rfl⟩
    exact ⟨hs, r, hr, hp⟩
  · rintro ⟨hs, r, hr, hp⟩
    exact ⟨n, hs, p, ⟨r, hr, hp⟩, rfl, rfl⟩

/-- When POST_COUNT_REACHED is due (R39). -/
theorem postCountDue_eq_some {k : Fin 16} {n : Nat} {s : State} :
    postCountDue k s = some n ↔
      s.sinks[k] = .capture n ∧ ∃ r p, findRecord n s = some r ∧ findPart k r = some p ∧ p.collecting = true
        ∧ p.remaining = 0 := by
  simp only [postCountDue, Option.bind_eq_some_iff, Prod.exists, collectingPart_eq_some]
  constructor
  · rintro ⟨m, p, ⟨hs, r, hr, hp⟩, h⟩
    split at h
    · next hc =>
      obtain rfl : m = n := Option.some.inj h
      simp only [Bool.and_eq_true, beq_iff_eq] at hc
      exact ⟨hs, r, p, hr, hp, hc⟩
    · cases h
  · rintro ⟨hs, r, p, hr, hp, hc, hz⟩
    exact ⟨n, p, ⟨hs, r, hr, hp⟩, by simp [hc, hz]⟩

theorem reachPostCount_keeps (k : Fin 16) (s : State) : KeepsCapture s (reachPostCount k s) := by
  unfold reachPostCount
  split
  · next n h =>
    have sink : s.sinks[k] ≠ .none := by rw [(postCountDue_eq_some.mp h).1]; nofun
    exact keepsCapture_trans (keepsCapture_of_storeKept
      (storeKept_trans (stopCollecting_storeKept n k s) (closeIfDone_storeKept n _)) fun _ => not_quiet_of_sink sink)
      (endDrain_keeps _)
  · exact keepsCapture_refl s

theorem settlePostCounts_keeps (s : State) : KeepsCapture s (settlePostCounts s) := by
  unfold settlePostCounts
  refine keepsCapture_foldl _ (fun k t => ?_) _ s
  unfold settlePostCount
  split
  · exact keepsCapture_trans (reachPostCount_keeps k t) (keepsCapture_of_view (conclude_view _))
  · exact keepsCapture_refl t

theorem settle_keeps (s : State) : KeepsCapture s (settle s) :=
  keepsCapture_trans (settlePostCounts_keeps s) (keepsCapture_of_view (settleWatches_view _))

theorem takeOutput_keeps (k : Fin 16) (s : State) : KeepsCapture s (takeOutput k s) := by
  unfold takeOutput
  split
  · exact keepsCapture_refl s
  · next raw _ =>
    exact keepsCapture_trans (storeOutput_keeps k raw s)
      (keepsCapture_trans (endDrain_keeps _) (keepsCapture_of_view rfl))

theorem takeDueOutput_keeps (k : Fin 16) (s : State) : KeepsCapture s (takeDueOutput k s) := by
  unfold takeDueOutput
  split
  · exact keepsCapture_trans (takeOutput_keeps k s)
      (keepsCapture_trans (keepsCapture_of_view (conclude_view _)) (settle_keeps _))
  · exact keepsCapture_refl s

theorem deliverAll_keeps (s : State) : KeepsCapture s (deliverAll s) := by
  unfold deliverAll
  exact keepsCapture_foldl _ (fun k t => takeDueOutput_keeps k t) _ s

end Sys2Proof.Machine
end

section
namespace Sys2Proof.Machine

/-! ## Time and rounds (R91, R95 to R100) -/

theorem storeKept_of_rounds {s t : State} {round : RoundState} {pacer : Pacer}
    (h : captureView t = { captureView s with round := round, pacer := pacer }) : StoreKept s t where
  acquisition := congrArg CaptureView.acquisition h
  nextRecord := congrArg CaptureView.nextRecord h
  records := by
    rw [show t.records = s.records from congrArg CaptureView.records h]
    exact (storeKept_refl s).records
  pages := .of_eq (ownedPages_of_records (congrArg CaptureView.free h) (congrArg CaptureView.rings h)
    (congrArg (fun v => v.records.map recordPageNumbers) h))

/-- Rounds go on only where something acquires. -/
theorem keepsCapture_of_rounds {s t : State} {round : RoundState} {pacer : Pacer}
    (h : captureView t = { captureView s with round := round, pacer := pacer })
    (hs : s.acquisition ≠ .idle ∨ s.round ≠ .noRound ∨ s.pacer ≠ .stopped) : KeepsCapture s t := by
  refine keepsCapture_of_storeKept (storeKept_of_rounds h) fun hi ⟨_, _, hr, hp⟩ => ?_
  rcases hs with h | h | h
  · exact h hi
  · exact h hr
  · exact h hp

/-- Time that passes begins no round and runs no pacer (R91, R98). -/
theorem elapse_keeps (units : Nat) (s : State) : KeepsCapture s (elapse units s) := by
  by_cases h : s.round = .noRound ∧ s.pacer = .stopped
  · refine keepsCapture_of_view ?_
    simp [captureView, h.1, h.2, ageRound, agePacer]
  · refine keepsCapture_of_rounds rfl (.inr ?_)
    by_contra hc
    exact h (by simpa [not_or] using hc)

theorem beginRound_parts (s : State) : captureView (beginRound s) = { captureView s with round := (beginRound s).round } := by
  unfold beginRound; split <;> rfl

theorem beginRound_keeps (s : State) (h : s.acquisition ≠ .idle ∨ s.round ≠ .noRound ∨ s.pacer ≠ .stopped) :
    KeepsCapture s (beginRound s) := by
  unfold beginRound
  split
  · exact keepsCapture_of_rounds rfl h
  · exact keepsCapture_refl s

theorem startEvent_keeps (s : State) (h : s.acquisition ≠ .idle ∨ s.round ≠ .noRound ∨ s.pacer ≠ .stopped) :
    KeepsCapture s (startEvent s) := by
  unfold startEvent
  split
  · exact beginRound_keeps s h
  · exact keepsCapture_of_view (countUp_view _ s)

theorem expirePacer_keeps (s : State) : KeepsCapture s (expirePacer s) := by
  unfold expirePacer
  split
  · next period remaining h =>
    have running : (elapse remaining.toNat s).pacer ≠ .stopped := by simp [h, agePacer]
    have rearmed : KeepsCapture (elapse remaining.toNat s)
        { elapse remaining.toNat s with pacer := rearmPacer (elapse remaining.toNat s).pacer } :=
      keepsCapture_of_rounds rfl (.inr (.inr running))
    refine keepsCapture_trans (elapse_keeps remaining.toNat s) (keepsCapture_trans rearmed
      (startEvent_keeps _ (.inr (.inr ?_))))
    simp [h, agePacer, rearmPacer]
  · exact keepsCapture_refl s

theorem takeConvIn_keeps (edge : Edge) (s : State) : KeepsCapture s (takeConvIn edge s) := by
  unfold takeConvIn
  split
  · exact keepsCapture_refl s
  · refine keepsCapture_trans (t := { s with pins := { s.pins with convIn := edgeLevel edge } })
      (keepsCapture_of_view rfl) ?_
    dsimp only
    split
    · next h =>
      simp only [Bool.and_eq_true, acquiring, Bool.not_eq_true', decide_eq_false_iff_not] at h
      exact startEvent_keeps _ (.inl h.2)
    · exact keepsCapture_refl _

theorem finishConversion_keeps (level : Nat) (s : State) : KeepsCapture s (finishConversion level s) := by
  unfold finishConversion
  split
  · next start k remaining h =>
    have inRound : (elapse remaining.toNat s).round ≠ .noRound := by simp [h, ageRound]
    have drawn := drawRounding_view (slotOf k (elapse remaining.toNat s)) level (elapse remaining.toNat s)
    refine keepsCapture_trans (elapse_keeps remaining.toNat s) (keepsCapture_of_rounds
      (round := (completeConversion start k (min remaining 0) level (elapse remaining.toNat s)).round)
      (pacer := (elapse remaining.toNat s).pacer) ?_ (.inr (.inl inRound)))
    exact congrArg (fun v : CaptureView => { v with
      round := (completeConversion start k (min remaining 0) level (elapse remaining.toNat s)).round }) drawn
  · exact keepsCapture_refl s

theorem takeConversion_keeps (level : Nat) (s : State) : KeepsCapture s (takeConversion level s) := by
  unfold takeConversion
  split
  · exact keepsCapture_trans (takeDueOutput_keeps _ s) (finishConversion_keeps level _)
  · exact keepsCapture_refl s

/-! ## Start (R20, R125) -/

theorem vector_ext {α : Type} {n : Nat} {v w : Vector α n} (h : ∀ k : Fin n, v[k] = w[k]) : v = w :=
  Vector.ext fun i hi => h ⟨i, hi⟩

theorem ofFn_get {α : Type} {n : Nat} (f : Fin n → α) (k : Fin n) : (Vector.ofFn f)[k] = f k := by simp

/-- Priming, one stream after another (R112). -/
theorem foldl_prime (l : List (Fin 16)) (s : State) :
    l.foldl (fun t k => if t.streams[k].enabled then setFilter k (primed (tapsOf k t)) t else t) s
      = { s with filters := Vector.ofFn fun k =>
            if k ∈ l ∧ s.streams[k].enabled = true then primed (tapsOf k s) else s.filters[k] } := by
  induction l generalizing s with
  | nil => simp
  | cons j rest ih =>
    rw [List.foldl_cons, ih]
    by_cases hj : s.streams[j].enabled = true
    · rw [if_pos hj]
      refine congrArg (fun v => { s with filters := v }) (vector_ext fun k => ?_)
      simp only [ofFn_get]
      change (if k ∈ rest ∧ s.streams[k].enabled = true then primed (tapsOf k s)
        else (put s.filters j (primed (tapsOf j s)))[k]) = _
      rw [put_get]
      by_cases e : k = j
      · subst e; rw [if_pos rfl, ite_self, if_pos ⟨List.mem_cons_self, hj⟩]
      · simp only [List.mem_cons, e, false_or, if_false]
    · rw [if_neg hj]
      refine congrArg (fun v => { s with filters := v }) (vector_ext fun k => ?_)
      simp only [ofFn_get]
      by_cases e : k = j
      · subst e; rw [if_neg fun h => hj h.2, if_neg fun h => hj h.2]
      · simp only [List.mem_cons, e, false_or]

/-- Every enabled stream is primed (R112). -/
theorem primeFilters_eq (s : State) :
    primeFilters s = { s with filters := Vector.ofFn fun k =>
      if s.streams[k].enabled = true then primed (tapsOf k s) else s.filters[k] } := by
  simp only [primeFilters, allStreams_eq, foldl_prime, List.mem_finRange, true_and]

/-- Every stream is prepared for storage (R20). -/
theorem prepareStorage_eq (s : State) :
    prepareStorage s = { s with
      free := s.free ++ ringPages s, rings := Vector.replicate 16 emptyRing, sinks := s.streams.map startSink } := by
  simp only [prepareStorage, emptyAllRings_eq]

/-- A Start up to its first round (R125). -/
theorem beginRun_eq (s : State) :
    beginRun s = startRounds { s with
      filters := Vector.ofFn fun k => if s.streams[k].enabled = true then primed (tapsOf k s) else s.filters[k]
      free := s.free ++ ringPages s
      rings := Vector.replicate 16 emptyRing
      sinks := s.streams.map startSink
      watches := s.watches.map armWatch
      external := armExternal s.external
      acquisition := .running
      triggers := s.triggers.map agedTrigger } := by
  simp only [beginRun, armAll, prepareStorage_eq, primeFilters_eq, ringPages]

/-- A part that runs need not be quiet. -/
theorem keepsCapture_of_running {s t : State} (hn : t.nextRecord = s.nextRecord)
    (hr : TableKept s.records t.records) (hp : (ownedPages t).Perm (ownedPages s)) (ha : t.acquisition ≠ .idle) :
    KeepsCapture s t :=
  ⟨hp.trans, fun ⟨sound, distinct, _⟩ =>
    ⟨recordNumbersSound_of_kept hr hn sound, partsDistinct_of_kept hr distinct, fun h => absurd h ha⟩⟩

theorem startRounds_keeps (s : State) (h : s.acquisition ≠ .idle) : KeepsCapture s (startRounds s) := by
  unfold startRounds
  split
  · exact keepsCapture_trans (beginRound_keeps s (.inl h)) (keepsCapture_of_rounds rfl (.inl (by
      rw [show (beginRound s).acquisition = s.acquisition from congrArg CaptureView.acquisition (beginRound_parts s)]
      exact h)))
  · exact keepsCapture_refl s
  · exact keepsCapture_refl s

theorem beginRun_keeps (s : State) : KeepsCapture s (beginRun s) := by
  have running : AcquisitionState.running ≠ .idle := by decide
  rw [beginRun_eq]
  have emptied := (emptyAllRings_storeKept s).pages
  rw [emptyAllRings_eq] at emptied
  refine keepsCapture_trans ⟨fun h => ?_, fun ⟨sound, distinct, _⟩ => ?_⟩ (startRounds_keeps _ ?_)
  · exact (List.Perm.of_eq (ownedPages_of_records rfl rfl rfl)).trans (emptied.trans h)
  · exact ⟨sound, distinct, fun h => absurd h running⟩
  · exact running

/-! ## Stop (R44, R127 to R129) -/

theorem findRecord_number {n : Nat} {s : State} {r : CaptureRecord} (h : findRecord n s = some r) : r.number = n := by
  simpa using List.find?_some h

/-- With distinct numbers, the search for a record's number finds it (R33). -/
theorem findRecord_of_mem {s : State} (hn : (recordNumbers s).Nodup) {r : CaptureRecord} (hr : r ∈ s.records) :
    findRecord r.number s = some r := by
  have all : ∀ l : List CaptureRecord, (l.map fun x => x.number).Nodup → r ∈ l →
      l.find? (fun x => x.number == r.number) = some r := by
    intro l hl hm
    induction l with
    | nil => cases hm
    | cons x rest ih =>
      obtain ⟨hx, hrest⟩ := List.nodup_cons.mp hl
      rcases List.mem_cons.mp hm with rfl | hm
      · simp
      · have : x.number ≠ r.number := fun e => hx (by simpa [e] using List.mem_map_of_mem (f := fun x => x.number) hm)
        simpa [this] using ih hrest hm
  exact all s.records hn hr

theorem findRecord_changeRecord_self (n : Nat) (f : CaptureRecord → CaptureRecord) (s : State)
    (h : ∀ r, (f r).number = r.number) : findRecord n (changeRecord n f s) = (findRecord n s).map f :=
  find?_changeFirst _ f s.records fun r => by rw [h]

theorem findRecord_changeRecord_other {m n : Nat} (f : CaptureRecord → CaptureRecord) (s : State)
    (h : ∀ r, (f r).number = r.number) (hm : m ≠ n) : findRecord m (changeRecord n f s) = findRecord m s :=
  find?_changeFirst_other _ _ f s.records fun r hr => by
    obtain rfl : r.number = n := by simpa using hr
    simp [h, hm.symm]

theorem findRecord_of_view {s t : State} (h : captureView t = captureView s) (n : Nat) :
    findRecord n t = findRecord n s :=
  congrArg (fun v => v.records.find? fun r => r.number == n) h

theorem findRecord_changeFlags_self (n : Nat) (f : RecordFlags → RecordFlags) (s : State) :
    findRecord n (changeFlags n f s) = (findRecord n s).map fun r => { r with flags := f r.flags } :=
  findRecord_changeRecord_self n _ s fun _ => rfl

theorem findRecord_changeFlags_other {m n : Nat} (f : RecordFlags → RecordFlags) (s : State) (h : m ≠ n) :
    findRecord m (changeFlags n f s) = findRecord m s :=
  findRecord_changeRecord_other _ s (fun _ => rfl) h

theorem findRecord_closeRecord_self (r : CaptureRecord) (s : State) :
    findRecord r.number (closeRecord r s)
      = (findRecord r.number s).map fun x => { x with state := .closed, closeTime := some s.clock.timebase } :=
  (findRecord_of_view (raiseNotice_view _ _) _).trans (findRecord_changeRecord_self r.number _ s fun _ => rfl)

theorem findRecord_closeRecord_other {m : Nat} (r : CaptureRecord) (s : State) (h : m ≠ r.number) :
    findRecord m (closeRecord r s) = findRecord m s :=
  (findRecord_of_view (raiseNotice_view _ _) _).trans (findRecord_changeRecord_other _ s (fun _ => rfl) h)

/-- A part that stops collecting (R15). -/
def stoppedPart (p : StreamPart) : StreamPart :=
  { p with run := encodePending p.run, collecting := false, remaining := 0 }

theorem findRecord_stopCollecting_self (n : Nat) (k : Fin 16) (s : State) :
    findRecord n (stopCollecting n k s)
      = (findRecord n s).map fun r => { r with parts := changeFirst (fun p => p.stream == k) stoppedPart r.parts } :=
  findRecord_changeRecord_self n _ s fun _ => rfl

theorem findRecord_stopCollecting_other {m n : Nat} (k : Fin 16) (s : State) (h : m ≠ n) :
    findRecord m (stopCollecting n k s) = findRecord m s :=
  findRecord_changeRecord_other _ s (fun _ => rfl) h

/-- After a change of the one part of its stream, a part of that stream is the changed one. -/
theorem changeFirst_stream {k : Fin 16} {f : StreamPart → StreamPart} {parts : List StreamPart}
    (hd : (parts.map fun p => p.stream).Nodup) {q : StreamPart}
    (hq : q ∈ changeFirst (fun p => p.stream == k) f parts) :
    (q ∈ parts ∧ q.stream ≠ k) ∨ ∃ p ∈ parts, q = f p := by
  induction parts with
  | nil => cases hq
  | cons p rest ih =>
    obtain ⟨hp, hrest⟩ := List.nodup_cons.mp hd
    by_cases h : p.stream = k
    · rw [changeFirst, if_pos (by simpa using h)] at hq
      rcases List.mem_cons.mp hq with rfl | hq
      · exact .inr ⟨p, List.mem_cons_self, rfl⟩
      · exact .inl ⟨List.mem_cons_of_mem _ hq, fun e =>
          hp (by simpa [h, e] using List.mem_map_of_mem (f := fun x => x.stream) hq)⟩
    · rw [changeFirst, if_neg (by simpa using h)] at hq
      rcases List.mem_cons.mp hq with rfl | hq
      · exact .inl ⟨List.mem_cons_self, h⟩
      · rcases ih hrest hq with ⟨hm, hs⟩ | ⟨x, hx, e⟩
        · exact .inl ⟨List.mem_cons_of_mem _ hm, hs⟩
        · exact .inr ⟨x, List.mem_cons_of_mem _ hx, e⟩

/-- No part of the record with a number is collecting. -/
abbrev Stopped (n : Nat) (s : State) : Prop :=
  ∀ r, findRecord n s = some r → ∀ p ∈ r.parts, p.collecting = false

/-- The record with a number is not OPEN. -/
abbrev Closed (n : Nat) (s : State) : Prop := ∀ r, findRecord n s = some r → r.state ≠ .opened

/-- The parts of a record stop one after another: what still collects is among those to come. -/
theorem foldl_stopCollecting (n : Nat) (parts : List StreamPart) (s : State)
    (h : ∀ r, findRecord n s = some r → PartsDistinct r
      ∧ ∀ q ∈ r.parts, q.collecting = true → ∃ p ∈ parts, p.collecting = true ∧ p.stream = q.stream) :
    Stopped n (parts.foldl (fun t p => if p.collecting then stopCollecting n p.stream t else t) s) := by
  induction parts generalizing s with
  | nil =>
    intro r hr q hq
    by_contra hc
    obtain ⟨p, hp, -⟩ := (h r hr).2 q hq (by simpa using hc)
    cases hp
  | cons p rest ih =>
    refine ih _ fun r hr => ?_
    dsimp only at hr
    by_cases hp : p.collecting = true
    · rw [if_pos hp, findRecord_stopCollecting_self] at hr
      obtain ⟨x, hx, rfl⟩ := Option.map_eq_some_iff.mp hr
      obtain ⟨distinct, left⟩ := h x hx
      refine ⟨?_, fun q hq hc => ?_⟩
      · unfold PartsDistinct
        rw [changeFirst_map _ stoppedPart _ _ fun _ _ => rfl]
        exact distinct
      · rcases changeFirst_stream (f := stoppedPart) distinct hq with ⟨hm, hs⟩ | ⟨y, -, rfl⟩
        · obtain ⟨p', hp', hc', e⟩ := left q hm hc
          rcases List.mem_cons.mp hp' with rfl | hp'
          · exact absurd e.symm hs
          · exact ⟨p', hp', hc', e⟩
        · cases hc
    · rw [if_neg hp] at hr
      obtain ⟨distinct, left⟩ := h r hr
      refine ⟨distinct, fun q hq hc => ?_⟩
      obtain ⟨p', hp', hc', e⟩ := left q hq hc
      rcases List.mem_cons.mp hp' with rfl | hp'
      · exact absurd hc' hp
      · exact ⟨p', hp', hc', e⟩

/-- Every collecting part of a record stops at once (R44). -/
theorem stopRecord_self (n : Nat) (s : State) (h : ∀ r ∈ s.records, PartsDistinct r) : Stopped n (stopRecord n s) := by
  unfold stopRecord
  split
  · next hn => intro r hr; rw [hn] at hr; cases hr
  · next r hr =>
    have stopped := foldl_stopCollecting n r.parts s fun x hx => by
      obtain rfl : r = x := Option.some.inj (hr.symm.trans hx)
      exact ⟨h r (List.mem_of_find?_eq_some hr), fun q hq hc => ⟨q, hq, hc, rfl⟩⟩
    intro x hx
    rw [findRecord_changeFlags_self] at hx
    obtain ⟨y, hy, rfl⟩ := Option.map_eq_some_iff.mp hx
    exact stopped y hy

theorem stopRecord_other {m n : Nat} (s : State) (h : m ≠ n) : findRecord m (stopRecord n s) = findRecord m s := by
  unfold stopRecord
  split
  · rfl
  · next r _ =>
    have all : ∀ (l : List StreamPart) (t : State),
        findRecord m (l.foldl (fun t p => if p.collecting then stopCollecting n p.stream t else t) t)
          = findRecord m t := by
      intro l
      induction l with
      | nil => exact fun _ => rfl
      | cons p rest ih =>
        intro t
        rw [List.foldl_cons, ih]
        split
        · exact findRecord_stopCollecting_other _ t h
        · rfl
    exact (findRecord_changeFlags_other _ _ h).trans (all _ _)

theorem stopRecord_storeKept (n : Nat) (s : State) : StoreKept s (stopRecord n s) := by
  unfold stopRecord
  split
  · exact storeKept_refl s
  · refine storeKept_trans (storeKept_foldl _ (fun p t => ?_) _ s) (changeFlags_storeKept n _ _)
    split
    · exact stopCollecting_storeKept _ _ t
    · exact storeKept_refl t

/-- A record none of whose parts collects is closed by the check for it (R41). -/
theorem closeIfDone_self (n : Nat) (s : State) (h : Stopped n s) : Closed n (closeIfDone n s) := by
  unfold closeIfDone
  split
  · next r hr =>
    have done : (r.parts.any fun p => p.collecting) = false := by simpa using h r hr
    obtain rfl := findRecord_number hr
    intro x hx
    split at hx
    · rw [findRecord_closeRecord_self] at hx
      obtain ⟨y, -, rfl⟩ := Option.map_eq_some_iff.mp hx
      nofun
    · next hc =>
      obtain rfl : r = x := Option.some.inj (hr.symm.trans hx)
      simpa [isOpen, done] using hc
  · next hn => intro x hx; rw [hn] at hx; cases hx

theorem closeIfDone_other {m n : Nat} (s : State) (h : m ≠ n) : findRecord m (closeIfDone n s) = findRecord m s := by
  obtain e | ⟨r, hr, -, -, e⟩ := closeIfDone_cases n s <;> rw [e]
  obtain rfl := findRecord_number hr
  exact findRecord_closeRecord_other r s h

theorem foldl_stopRecord_storeKept (l : List Nat) (s : State) :
    StoreKept s (l.foldl (fun t n => stopRecord n t) s) := storeKept_foldl _ (fun n t => stopRecord_storeKept n t) l s

theorem foldl_closeIfDone_storeKept (l : List Nat) (s : State) :
    StoreKept s (l.foldl (fun t n => closeIfDone n t) s) := storeKept_foldl _ (fun n t => closeIfDone_storeKept n t) l s

theorem stopAllRecords_storeKept (s : State) : StoreKept s (stopAllRecords s) := by
  unfold stopAllRecords
  exact storeKept_trans (foldl_stopRecord_storeKept _ s) (foldl_closeIfDone_storeKept _ _)

/-- The check for a record leaves its parts as they are. -/
theorem closeIfDone_stopped (m n : Nat) (s : State) (h : Stopped m s) : Stopped m (closeIfDone n s) := by
  by_cases e : m = n
  · subst e
    obtain e | ⟨r, hr, -, hp, e⟩ := closeIfDone_cases m s <;> rw [e]
    · exact h
    · obtain rfl := findRecord_number hr
      intro x hx
      rw [findRecord_closeRecord_self] at hx
      obtain ⟨y, hy, rfl⟩ := Option.map_eq_some_iff.mp hx
      exact h y hy
  · intro r hr
    exact h r ((closeIfDone_other s e).symm.trans hr)

/-- Operations on one record after another: what each gives its own record, and leaves the others, holds of all. -/
theorem foldl_each (f : Nat → State → State) (P : Nat → State → Prop) (good : State → Prop) (l : List Nat)
    (keeps : ∀ n s, good s → good (f n s)) (self : ∀ n ∈ l, ∀ s, good s → P n (f n s))
    (other : ∀ m n s, m ≠ n → P m s → P m (f n s)) (s : State) (hs : good s) (m : Nat) (hm : m ∈ l ∨ P m s) :
    P m (l.foldl (fun t n => f n t) s) := by
  induction l generalizing s with
  | nil => simpa using hm
  | cons n rest ih =>
    refine ih (fun n hn => self n (List.mem_cons_of_mem _ hn)) _ (keeps n s hs) ?_
    by_cases e : m = n
    · subst e; exact .inr (self m List.mem_cons_self s hs)
    · rcases hm with hm | hm
      · exact .inl ((List.mem_cons.mp hm).resolve_left e)
      · exact .inr (other m n s e hm)

/-- An immediate stop closes every OPEN record (R44). -/
theorem stopAllRecords_closes (s : State) (hn : (recordNumbers s).Nodup) (hd : ∀ r ∈ s.records, PartsDistinct r) :
    anyOpen (stopAllRecords s) = false := by
  have stopped : ∀ n ∈ openNumbers s, Stopped n ((openNumbers s).foldl (fun t n => stopRecord n t) s) := fun n hm =>
    foldl_each stopRecord Stopped (fun t => ∀ r ∈ t.records, PartsDistinct r) (openNumbers s)
      (fun n t ht => partsDistinct_of_kept (stopRecord_storeKept n t).table ht)
      (fun n _ t ht => stopRecord_self n t ht)
      (fun m n t e ht r hr => ht r ((stopRecord_other t e).symm.trans hr)) s hd n (.inl hm)
  have closed : ∀ n ∈ openNumbers s, Closed n (stopAllRecords s) := fun n hm =>
    foldl_each closeIfDone Closed (fun t => ∀ n ∈ openNumbers s, Stopped n t) (openNumbers s)
      (fun n t ht m hm => closeIfDone_stopped m n t (ht m hm))
      (fun n hm t ht => closeIfDone_self n t (ht n hm))
      (fun m n t e ht r hr => ht r ((closeIfDone_other t e).symm.trans hr)) _ stopped n (.inl hm)
  have kept := stopAllRecords_storeKept s
  refine anyOpen_eq_false.mpr fun u hu ho => ?_
  obtain ⟨r, hr, ⟨number, -, opened⟩, -⟩ := mem_of_forall₂ kept.records hu
  have among : u.number ∈ openNumbers s := by
    rw [number]
    exact List.mem_map_of_mem (List.mem_filter.mpr ⟨hr, by simp [isOpen, opened ho]⟩)
  refine closed u.number among u (findRecord_of_mem ?_ hu) ho
  rwa [recordNumbers_of_kept kept.table]

/-- STOP IMMEDIATE (R129). -/
theorem stopNow_keeps (s : State) : KeepsCapture s (stopNow s) := by
  have stopped := storeKept_trans (storeKept_of_view (t := disarmAll s) rfl) (stopAllRecords_storeKept (disarmAll s))
  unfold stopNow
  rw [reachIdle_eq]
  refine ⟨fun h => (keepsCapture_of_view (raiseNotice_view _ _)).1
    (((quieted_pages _).trans stopped.pages).trans h), fun h => ?_⟩
  obtain ⟨sound, distinct, -⟩ := h
  have closed := stopAllRecords_closes (disarmAll s) sound.2.1 distinct
  refine (keepsCapture_of_view (raiseNotice_view _ _)).2 ⟨?_, ?_, fun _ => ⟨closed, fun k => ?_, rfl, rfl⟩⟩
  · exact recordNumbersSound_of_kept stopped.table stopped.nextRecord sound
  · exact partsDistinct_of_kept stopped.table distinct
  · simp [quieted, emptyRing, emptyRun]

/-- STOP GRACEFUL (R127). -/
theorem stopGently_keeps (s : State) : KeepsCapture s (stopGently s) := by
  unfold stopGently
  split
  · exact keepsCapture_of_running rfl (storeKept_refl s).table (.refl _) (by decide : AcquisitionState.draining ≠ .idle)
  · next ho =>
    exact keepsCapture_trans (keepsCapture_of_view (t := disarmAll s) rfl)
      (reachIdle_keeps _ (disarmAll s) (show anyOpen s = false by simpa using ho))

theorem stopEffect_keeps (mode : Byte) (s : State) : KeepsCapture s (stopEffect mode s) := by
  unfold stopEffect
  split
  · exact keepsCapture_refl s
  · split
    · exact stopGently_keeps s
    · exact stopNow_keeps s
  · split
    · exact keepsCapture_refl s
    · exact stopNow_keeps s

end Sys2Proof.Machine
end

section
namespace Sys2Proof.Machine

/-! ## Readouts and releases (R47 to R49, R61 to R67) -/

/-- A record that becomes SEALED or READING opens no record and moves no page. -/
theorem changeState_keeps (n : Nat) (state : RecordState) (h : state ≠ .opened) (s t : State)
    (ht : captureView t = captureView (changeRecord n (fun r => { r with state := state }) s)) : KeepsCapture s t := by
  have table : TableKept s.records (changeRecord n (fun r => { r with state := state }) s).records :=
    forall₂_changeFirst RecordKept (fun _ => ⟨rfl, rfl, id⟩) _ _ s.records fun _ _ => ⟨rfl, rfl, fun e => absurd e h⟩
  have changed := keepsCapture_of_table (t := changeRecord n (fun r => { r with state := state }) s) rfl table
    (changeRecord_pages n _ s fun _ => rfl)
  exact keepsCapture_trans changed (keepsCapture_of_view ht)

theorem releaseReadout_keeps (s : State) : KeepsCapture s (releaseReadout s) :=
  changeState_keeps s.readout.record .closed (by decide) s _ rfl

theorem endReadout_keeps (reason : ReadoutEnd) (s : State) : KeepsCapture s (endReadout reason s) :=
  keepsCapture_trans (releaseReadout_keeps s) (keepsCapture_of_view (raiseNotice_view _ (disownChunk _)))

theorem changeFlags_keeps (n : Nat) (f : RecordFlags → RecordFlags) (s : State) : KeepsCapture s (changeFlags n f s) :=
  keepsCapture_of_table rfl (changeFlags_storeKept n f s).table (changeRecord_pages n _ s fun _ => rfl)

theorem completeReadout_keeps (s : State) : KeepsCapture s (completeReadout s) :=
  keepsCapture_trans (changeFlags_keeps _ _ s) (releaseReadout_keeps _)

theorem beginReadout_keeps (tag : Byte) (r : CaptureRecord) (offset : Nat) (s : State) :
    KeepsCapture s (beginReadout tag r offset s) := changeState_keeps r.number .reading (by decide) s _ rfl

theorem releaseRecord_keeps (r : CaptureRecord) (s : State) : KeepsCapture s (releaseRecord r s) := by
  unfold releaseRecord
  split
  · exact keepsCapture_trans (endReadout_keeps _ s) (removeRecord_keeps _ _)
  · exact removeRecord_keeps _ s

theorem releaseSealed_keeps (s : State) : KeepsCapture s (releaseSealed s) :=
  keepsCapture_foldl _ (fun n t => removeRecord_keeps n t) _ s

/-! ## Resets (R146, R221) -/

theorem endReset_keeps (cause : RestartCause) (pins : PinLevels) (s : State) : KeepsCapture s (endReset cause pins s) :=
  keepsCapture_reset (raiseNotice_view _ _)

theorem enterReset_keeps (s : State) : KeepsCapture s (enterReset s) := keepsCapture_reset rfl

/-! ## The receiver and the link reset (chapter 9) -/

theorem framingError_view (byOpen : Bool) (s : State) : captureView (framingError byOpen s) = captureView s :=
  countUp_view _ _

theorem offerRequest_view (r : Request) (s : State) : captureView (offerRequest r s) = captureView s := by
  unfold offerRequest
  split
  · rfl
  · exact countUp_view _ s

theorem checkFrame_view (content : List Byte) (s : State) : captureView (checkFrame content s) = captureView s := by
  unfold checkFrame
  dsimp only
  split
  · split
    · exact offerRequest_view _ s
    · rfl
  · exact countUp_view _ s

theorem collectByte_view (b : Byte) (s : State) : captureView (collectByte b s) = captureView s := by
  unfold collectByte
  dsimp only
  split
  · exact checkFrame_view _ (setReceiver _ s)
  · rfl

theorem takeInHunt_view (c : RxCharacter) (s : State) : captureView (takeInHunt c s) = captureView s := by
  cases c with
  | good b => simp only [takeInHunt]; split <;> rfl
  | error => rfl
  | startedInReset => rfl

theorem takeInFrame_view (c : RxCharacter) (s : State) : captureView (takeInFrame c s) = captureView s := by
  cases c with
  | good b =>
    simp only [takeInFrame]
    split
    · exact framingError_view _ s
    · split
      · exact framingError_view _ s
      · split
        · rfl
        · exact collectByte_view b s
  | error => exact framingError_view _ s
  | startedInReset => rfl

theorem takeEscaped_view (c : RxCharacter) (s : State) : captureView (takeEscaped c s) = captureView s := by
  cases c with
  | good b =>
    simp only [takeEscaped]
    split
    · exact framingError_view _ s
    · split
      · exact collectByte_view _ s
      · exact framingError_view _ s
  | error => exact framingError_view _ s
  | startedInReset => rfl

theorem receiveCharacter_view (c : RxCharacter) (s : State) : captureView (receiveCharacter c s) = captureView s := by
  unfold receiveCharacter
  split
  · rfl
  · split
    · exact takeInHunt_view c s
    · exact takeInFrame_view c s
    · exact takeEscaped_view c s

theorem receiveTimeout_keeps (s : State) : KeepsCapture s (receiveTimeout s) := by
  unfold receiveTimeout
  split
  · exact keepsCapture_trans (elapse_keeps _ s) (keepsCapture_of_view (countUp_view _ (setReceiver _ _)))
  · exact keepsCapture_refl s

theorem endBrokenFrame_view (s : State) : captureView (endBrokenFrame s) = captureView s := by
  unfold endBrokenFrame
  split
  · rfl
  · exact (conclude_view _).trans (receiveCharacter_view _ s)
  · exact (conclude_view _).trans (receiveCharacter_view _ s)

theorem breakTransmitter_view (s : State) : captureView (breakTransmitter s) = captureView s := by
  unfold breakTransmitter tellAbort
  split
  · split <;> rfl
  · rfl

theorem breakQueues_view (discarded : List Frame) (s : State) :
    captureView (breakQueues discarded s) = captureView s := countTimes_view _ _ _

theorem clearLink_keeps (s : State) : KeepsCapture s (clearLink s) := by
  have queues : captureView (breakQueues (discardedFrames s) (breakTransmitter (breakReceiver (holdNotices s))))
      = captureView s := (breakQueues_view _ _).trans (breakTransmitter_view (breakReceiver (holdNotices s)))
  refine keepsCapture_trans (keepsCapture_of_view queues) ?_
  unfold clearLink
  refine keepsCapture_trans ?_ (keepsCapture_of_view (countUp_view _ _))
  unfold breakReadout
  split
  · exact keepsCapture_refl _
  · exact releaseReadout_keeps _

theorem announceLink_view (readout : List Notice) (s : State) : captureView (announceLink readout s) = captureView s :=
  view_foldl _ (fun n t => offerNotice_view n t) _ (stopHolding s)

theorem restartAfterBreak_keeps (pins : PinLevels) (s : State) : KeepsCapture s (restartAfterBreak pins s) := by
  unfold restartAfterBreak
  split
  · exact keepsCapture_of_view rfl
  · exact endReset_keeps _ pins s

theorem linkReset_keeps (pins : PinLevels) (s : State) : KeepsCapture s (linkReset pins s) := by
  have cleared := keepsCapture_trans (clearLink_keeps s)
    (keepsCapture_of_view (announceLink_view (brokenReadout s) (clearLink s)))
  unfold linkReset
  dsimp only
  split
  · exact keepsCapture_trans cleared (restartAfterBreak_keeps pins _)
  · exact cleared

/-! ## The Transmit Unit (chapter 10) -/

theorem chunkSent_keeps (s : State) : KeepsCapture s (chunkSent s) := by
  unfold chunkSent
  split
  · split
    · exact keepsCapture_trans (keepsCapture_of_view (t := emptyBuffer s) rfl) (completeReadout_keeps _)
    · exact keepsCapture_of_view rfl
  · exact keepsCapture_refl s

theorem completeFrame_keeps (f : Frame) (s : State) : KeepsCapture s (completeFrame f s) := by
  unfold completeFrame
  dsimp only
  split
  · split
    · exact keepsCapture_of_view rfl
    · exact keepsCapture_of_view rfl
  · exact keepsCapture_trans (keepsCapture_of_view (t := { s with transmit := { s.transmit with sending := none } }) rfl)
      (chunkSent_keeps _)
  · exact keepsCapture_of_view rfl
  · exact keepsCapture_of_view rfl
  · exact keepsCapture_of_view rfl

theorem finishFrame_keeps (f : Frame) (pins : PinLevels) (s : State) : KeepsCapture s (finishFrame f pins s) := by
  have chosen := keepsCapture_trans (completeFrame_keeps f s) (keepsCapture_of_view (chooseFrame_view _))
  unfold finishFrame
  split
  · refine keepsCapture_trans (completeFrame_keeps f s) ?_
    unfold restartAfterReply
    split
    · exact endReset_keeps _ pins _
    · exact keepsCapture_of_view rfl
  · exact chosen
  · exact chosen
  · exact chosen
  · exact chosen

theorem abortSent_keeps (pins : PinLevels) (s : State) : KeepsCapture s (abortSent pins s) := by
  unfold abortSent
  split
  · split
    · exact enterReset_keeps s
    · exact endReset_keeps _ pins s
  · exact endReset_keeps _ pins s
  · exact keepsCapture_of_view (chooseFrame_view s)

theorem continueFrame_view (just : Byte) (t : Transmission) (next : Byte) (rest : List Byte) (s : State) :
    captureView (continueFrame just t next rest s) = captureView s := by
  unfold continueFrame; split <;> rfl

theorem characterBoundary_keeps (just : Byte) (pins : PinLevels) (s : State) :
    KeepsCapture s (characterBoundary just pins s) := by
  unfold characterBoundary
  split
  · exact keepsCapture_of_view rfl
  · split
    · exact abortSent_keeps pins s
    · split
      · split
        · exact keepsCapture_of_view (continueFrame_view _ _ _ _ s)
        · exact finishFrame_keeps _ pins s
      · exact keepsCapture_of_view (chooseFrame_view s)

theorem takeBoundary_keeps (pins : PinLevels) (s : State) : KeepsCapture s (takeBoundary pins s) := by
  unfold takeBoundary
  split
  · exact keepsCapture_trans (elapse_keeps _ s) (characterBoundary_keeps _ pins _)
  · exact keepsCapture_refl s

/-! ## Requests (R184 to R188) -/

theorem afterReply_keeps (cut : Option PinLevels) (s : State) : KeepsCapture s (afterReply cut s) := by
  cases cut with
  | none => exact keepsCapture_refl s
  | some pins => exact keepsCapture_trans (keepsCapture_of_view (discardHeld_view s)) (linkReset_keeps pins _)

theorem offerOrCut_keeps (cut : Option PinLevels) (s : State) : KeepsCapture s (offerOrCut cut s) := by
  cases cut with
  | none => exact keepsCapture_of_view (offerHeld_view s)
  | some pins => exact afterReply_keeps (some pins) s

theorem answerRefused_keeps (cut : Option PinLevels) (r : Request) (e : Refused) (s : State) :
    KeepsCapture s (answerRefused cut r e s) :=
  keepsCapture_trans (keepsCapture_of_view (queueReply_view _ _ _ s))
    (keepsCapture_trans (afterReply_keeps cut _) (keepsCapture_of_view rfl))

/-- A request whose effect keeps the invariants keeps them, with its reply, its notices and a break (R184, R188). -/
theorem answer_keeps {α : Type} (cut : Option PinLevels) (r : Request) (verdict : Verdict α)
    (effect : α → State → State × List Byte) (s : State)
    (h : ∀ a, verdict = .ok a → KeepsCapture (holdNotices s) (effect a (holdNotices s)).1) :
    KeepsCapture s (answer cut r verdict effect s) := by
  cases verdict with
  | error e => exact answerRefused_keeps cut r e s
  | ok a =>
    exact keepsCapture_trans (keepsCapture_of_view (t := holdNotices s) rfl) (keepsCapture_trans (h a rfl)
      (keepsCapture_trans (keepsCapture_of_view (queueReply_view r .ok _ _))
        (keepsCapture_trans (offerOrCut_keeps cut _) (keepsCapture_of_view rfl))))

/-- A request that touches other pieces of state. -/
theorem answer_keeps_of_view {α : Type} (cut : Option PinLevels) (r : Request) (verdict : Verdict α)
    (effect : α → State → State × List Byte) (s : State)
    (h : ∀ a t, captureView (effect a t).1 = captureView t) : KeepsCapture s (answer cut r verdict effect s) :=
  answer_keeps cut r verdict effect s fun a _ => keepsCapture_of_view (h a _)

theorem acknowledge_view (id : Byte) (s : State) : captureView (acknowledge id s) = captureView s := by
  unfold acknowledge removeAlarm orphanReport withdrawReport addDrops; rfl

/-- A check that passes says what it checks. -/
theorem unlessOk_ok {α : Type} {passes : Bool} {status : Status} {detail : Byte} {v : Verdict α} {a : α}
    (h : unlessOk passes status detail v = .ok a) : passes = true ∧ v = .ok a := by
  unfold unlessOk at h
  split at h
  · next hp => exact ⟨hp, h⟩
  · cases h

theorem bind_ok {α β : Type} {v : Verdict α} {f : α → Verdict β} {b : β} (h : v.bind f = .ok b) :
    ∃ a, v = .ok a ∧ f a = .ok b := by
  cases v with
  | error e => cases h
  | ok a => exact ⟨a, rfl, h⟩

theorem runStart_keeps (cut : Option PinLevels) (r : Request) (s : State) : KeepsCapture s (runStart cut r s) := by
  unfold runStart
  refine answer_keeps cut r _ _ s fun _ _ => ?_
  dsimp only
  exact beginRun_keeps (holdNotices s)

theorem runStop_keeps (cut : Option PinLevels) (r : Request) (s : State) : KeepsCapture s (runStop cut r s) := by
  have before : KeepsCapture s (beforeStop (readStop r.payload) s) := by
    unfold beforeStop
    split
    · split
      · exact deliverAll_keeps s
      · exact keepsCapture_refl s
    · exact keepsCapture_refl s
  unfold runStop
  refine keepsCapture_trans before (answer_keeps cut r _ _ _ fun mode _ => ?_)
  dsimp only
  exact stopEffect_keeps mode (holdNotices _)

theorem runConvertOnce_keeps (cut : Option PinLevels) (r : Request) (s : State) :
    KeepsCapture s (runConvertOnce cut r s) := by
  refine answer_keeps cut r _ _ s fun _ h => beginRound_keeps _ (.inl ?_)
  obtain ⟨_, -, h⟩ := bind_ok h
  obtain ⟨h, -⟩ := unlessOk_ok h
  simpa [acquiring] using (Bool.and_eq_true_iff.mp h).1

theorem runForceCapture_keeps (cut : Option PinLevels) (r : Request) (s : State) :
    KeepsCapture s (runForceCapture cut r s) := by
  refine answer_keeps cut r _ _ s fun _ h => decideTrigger_keeps _ _ ?_
  obtain ⟨_, -, h⟩ := bind_ok h
  obtain ⟨h, -⟩ := unlessOk_ok h
  simpa using h

theorem runRestart_keeps (cut : Option PinLevels) (r : Request) (s : State) : KeepsCapture s (runRestart cut r s) := by
  unfold runRestart
  split
  · exact answerRefused_keeps cut r _ s
  · refine keepsCapture_trans (keepsCapture_of_view ?_) (afterReply_keeps cut _)
    exact decideIdle_view _

theorem runReadCounters_keeps (cut : Option PinLevels) (r : Request) (s : State) :
    KeepsCapture s (runReadCounters cut r s) :=
  answer_keeps_of_view cut r _ _ s fun clear t => by dsimp only; split <;> rfl

theorem runReadRecord_keeps (cut : Option PinLevels) (r : Request) (s : State) :
    KeepsCapture s (runReadRecord cut r s) :=
  answer_keeps cut r _ _ s fun v _ => beginReadout_keeps r.tag v.1 v.2 _

theorem runCancelReadout_keeps (cut : Option PinLevels) (r : Request) (s : State) :
    KeepsCapture s (runCancelReadout cut r s) :=
  answer_keeps cut r _ _ s fun _ _ => endReadout_keeps .cancelled _

theorem runReleaseRecord_keeps (cut : Option PinLevels) (r : Request) (s : State) :
    KeepsCapture s (runReleaseRecord cut r s) :=
  answer_keeps cut r _ _ s fun x _ => releaseRecord_keeps x _

theorem runReleaseAllSealed_keeps (cut : Option PinLevels) (r : Request) (s : State) :
    KeepsCapture s (runReleaseAllSealed cut r s) :=
  answer_keeps cut r _ _ s fun _ _ => releaseSealed_keeps _

/-- Every request, by its type (R185). -/
theorem runRequest_keeps (cut : Option PinLevels) (r : Request) (s : State) : KeepsCapture s (runRequest cut r s) := by
  unfold runRequest
  split
  · exact answer_keeps_of_view cut r _ _ s fun _ _ => rfl
  · exact answer_keeps_of_view cut r _ _ s fun _ _ => rfl
  · exact runReadCounters_keeps cut r s
  · exact answer_keeps_of_view cut r _ _ s fun _ _ => rfl
  · exact runRestart_keeps cut r s
  · exact answer_keeps_of_view cut r _ _ s fun _ _ => rfl
  · exact answer_keeps_of_view cut r _ _ s fun _ _ => rfl
  · exact answer_keeps_of_view cut r _ _ s fun _ _ => rfl
  · exact answer_keeps_of_view cut r _ _ s fun _ _ => rfl
  · exact answer_keeps_of_view cut r _ _ s fun _ _ => rfl
  · exact answer_keeps_of_view cut r _ _ s fun _ _ => rfl
  · exact answer_keeps_of_view cut r _ _ s fun _ _ => rfl
  · exact answer_keeps_of_view cut r _ _ s fun _ _ => rfl
  · exact runStart_keeps cut r s
  · exact runStop_keeps cut r s
  · exact runConvertOnce_keeps cut r s
  · exact runForceCapture_keeps cut r s
  · exact answer_keeps_of_view cut r _ _ s fun _ _ => rfl
  · exact runReadRecord_keeps cut r s
  · exact runCancelReadout_keeps cut r s
  · exact runReleaseRecord_keeps cut r s
  · exact runReleaseAllSealed_keeps cut r s
  · exact answer_keeps_of_view cut r _ _ s fun id t => acknowledge_view id t
  · exact answerRefused_keeps cut r _ s

end Sys2Proof.Machine
end

section
namespace Sys2Proof.Machine

/-! ## Commands and steps -/

theorem interruptRequest_keeps (pins : PinLevels) (s : State) : KeepsCapture s (interruptRequest pins s) := by
  unfold interruptRequest
  split
  · exact runRequest_keeps (some pins) _ s
  · exact linkReset_keeps pins s
  · exact linkReset_keeps pins s

theorem takeBreak_keeps (taken : LineBreak) (s : State) : KeepsCapture s (takeBreak taken s) := by
  have ended := keepsCapture_of_view (endBrokenFrame_view s)
  unfold takeBreak
  split
  · exact keepsCapture_refl s
  · split
    · exact keepsCapture_trans ended (linkReset_keeps _ _)
    · exact keepsCapture_trans ended (interruptRequest_keeps _ _)

theorem takePinReset_keeps (s : State) : KeepsCapture s (takePinReset s) := by
  unfold takePinReset
  split
  · exact keepsCapture_of_view (by unfold tellAbort; split <;> rfl)
  · exact enterReset_keeps s

theorem takeTrigIn_view (edge : Edge) (s : State) : captureView (takeTrigIn edge s) = captureView s := by
  unfold takeTrigIn
  split
  · rfl
  · dsimp only
    split
    · exact fireExternal_view _
    · rfl

theorem expireExternalHoldoff_keeps (s : State) : KeepsCapture s (expireExternalHoldoff s) := by
  unfold expireExternalHoldoff
  split
  · exact keepsCapture_trans (elapse_keeps _ s) (keepsCapture_of_view rfl)
  · exact keepsCapture_refl s
  · exact keepsCapture_refl s

theorem endTrigOutPulse_keeps (s : State) : KeepsCapture s (endTrigOutPulse s) := by
  unfold endTrigOutPulse
  split
  · exact keepsCapture_trans (elapse_keeps _ s) (keepsCapture_of_view rfl)
  · exact keepsCapture_refl s

theorem takeTriggerAt_keeps (position : Nat) (s : State) : KeepsCapture s (takeTriggerAt position s) := by
  unfold takeTriggerAt
  split
  · exact keepsCapture_trans (t := { s with triggers := s.triggers.eraseIdx position }) (keepsCapture_of_view rfl)
      (takeTrigger_keeps _ _)
  · exact keepsCapture_refl s

theorem takeAlarmRequestAt_view (position : Nat) (s : State) :
    captureView (takeAlarmRequestAt position s) = captureView s := by
  unfold takeAlarmRequestAt
  split
  · unfold takeAlarmRequest
    split
    · rfl
    · exact countUp_view _ { s with alarmRequests := s.alarmRequests.eraseIdx position }
  · rfl

theorem expireAcknowledgement_view (e : AlarmEntry) (s : State) :
    captureView (expireAcknowledgement e s) = captureView s := by
  unfold expireAcknowledgement
  split
  · rfl
  · exact (countUp_view _ _).trans (raiseNotice_view _ (removeAlarm e.id s))

theorem takeAlarmExpiry_keeps (id : Byte) (s : State) : KeepsCapture s (takeAlarmExpiry id s) := by
  unfold takeAlarmExpiry
  split
  · split
    · exact keepsCapture_trans (elapse_keeps _ s) (keepsCapture_of_view (expireAcknowledgement_view _ _))
    · exact keepsCapture_refl s
    · exact keepsCapture_refl s
  · exact keepsCapture_refl s

theorem carryOut_keeps (serves : Request → Bool) (run : Request → State → State)
    (h : ∀ r s, KeepsCapture s (run r s)) (s : State) : KeepsCapture s (carryOut serves run s) := by
  unfold carryOut
  split
  · split
    · exact h _ s
    · exact keepsCapture_refl s
  · exact keepsCapture_refl s
  · exact keepsCapture_refl s

/-- An event that keeps the invariants keeps them with the due steps before it and what follows it (logs 1, 11 to 13). -/
theorem takeEvent_keeps {event : State → State} (h : ∀ s, KeepsCapture s (event s)) (s : State) :
    KeepsCapture s (takeEvent event s) := by
  unfold takeEvent
  split
  · exact keepsCapture_refl s
  · exact keepsCapture_trans (settle_keeps s) (keepsCapture_trans (h _) (keepsCapture_of_view (conclude_view _)))

theorem takeDueStep_keeps {event : State → State} (h : ∀ s, KeepsCapture s (event s)) (s : State) :
    KeepsCapture s (takeDueStep event s) := by
  unfold takeDueStep
  split
  · exact keepsCapture_refl s
  · exact keepsCapture_trans (h s) (keepsCapture_of_view (conclude_view _))

/-- An answer keeps the invariants. -/
abbrev AnswerKeeps (s : State) (o : Host.Outcome State Fault Refusal) : Prop := ∀ t, o = .next t → KeepsCapture s t

theorem answerKeeps_next {s t : State} (h : KeepsCapture s t) : AnswerKeeps s (.next t) := by
  rintro _ ⟨rfl⟩
  exact h

theorem answerKeeps_event {event : State → State} (h : ∀ s, KeepsCapture s (event s)) (s : State) :
    AnswerKeeps s (.next (takeEvent event s)) := answerKeeps_next (takeEvent_keeps h s)

theorem answerKeeps_dueStep {event : State → State} (h : ∀ s, KeepsCapture s (event s)) (s : State) :
    AnswerKeeps s (.next (takeDueStep event s)) := answerKeeps_next (takeDueStep_keeps h s)

theorem answerKeeps_request (serves : Request → Bool) {run : Request → State → State}
    (h : ∀ r s, KeepsCapture s (run r s)) (s : State) : AnswerKeeps s (.next (takeEvent (carryOut serves run) s)) :=
  answerKeeps_event (carryOut_keeps serves run h) s

/-- A request that touches other pieces of state. -/
theorem answerKeeps_quietRequest {α : Type} (serves : Request → Bool) (verdict : Request → State → Verdict α)
    (effect : Request → α → State → State × List Byte) (h : ∀ r a t, captureView (effect r a t).1 = captureView t)
    (s : State) :
    AnswerKeeps s (.next (takeEvent (carryOut serves fun r t => answer none r (verdict r t) (effect r) t) s)) :=
  answerKeeps_request serves (fun r t => answer_keeps_of_view none r _ _ t (h r)) s

theorem endReset_conclude_keeps (cause : RestartCause) (pins : PinLevels) (s : State) :
    KeepsCapture s (conclude (endReset cause pins s)) :=
  keepsCapture_trans (endReset_keeps cause pins s) (keepsCapture_of_view (conclude_view _))

/-- Every command keeps the pages and the quiet of an IDLE part. -/
theorem exec_keeps (i : Instr) (s : State) : AnswerKeeps s (exec i s) := by
  cases i with
  | powerOnReset pins => exact answerKeeps_next (endReset_conclude_keeps .power pins s)
  | pinReset => exact answerKeeps_event takePinReset_keeps s
  | pinResetEnd pins =>
    show AnswerKeeps s (execPinResetEnd pins s)
    unfold execPinResetEnd
    split
    · exact answerKeeps_next (endReset_conclude_keeps .pin pins s)
    · exact answerKeeps_event (event := raiseResetPin) (fun t => keepsCapture_of_view rfl) s
  | lineBreak taken => exact answerKeeps_event (takeBreak_keeps taken) s
  | lineBreakEnd => exact answerKeeps_event (event := clearBreakMark) (fun t => keepsCapture_of_view rfl) s
  | rxCharacter c => exact answerKeeps_event (fun t => keepsCapture_of_view (receiveCharacter_view c t)) s
  | interCharacterTimeout => exact answerKeeps_event receiveTimeout_keeps s
  | txCharacterBoundary pins => exact answerKeeps_event (takeBoundary_keeps pins) s
  | pacerExpiry => exact answerKeeps_event expirePacer_keeps s
  | convInEdge edge => exact answerKeeps_event (takeConvIn_keeps edge) s
  | conversionComplete level => exact answerKeeps_event (takeConversion_keeps level) s
  | decimationOutput k => exact answerKeeps_event (takeOutput_keeps k) s
  | postCountReached k => exact answerKeeps_dueStep (reachPostCount_keeps k) s
  | watchFire w =>
    exact answerKeeps_dueStep (event := takeWatchFire w)
      (fun t => keepsCapture_trans (settlePostCounts_keeps t) (keepsCapture_of_view (fireWatch_view w _))) s
  | watchHoldoffEnd w =>
    exact answerKeeps_dueStep (event := takeHoldoffEnd w)
      (fun t => keepsCapture_trans (settlePostCounts_keeps t) (keepsCapture_of_view (endHoldoff_view w _))) s
  | trigInEdge edge => exact answerKeeps_event (fun t => keepsCapture_of_view (takeTrigIn_view edge t)) s
  | externalHoldoffExpiry => exact answerKeeps_event expireExternalHoldoff_keeps s
  | trigOutPulseEnd => exact answerKeeps_event endTrigOutPulse_keeps s
  | trigger position => exact answerKeeps_event (takeTriggerAt_keeps position) s
  | alarmRequest position =>
    exact answerKeeps_event (fun t => keepsCapture_of_view (takeAlarmRequestAt_view position t)) s
  | acknowledgementTimerExpiry id => exact answerKeeps_event (takeAlarmExpiry_keeps id) s
  | identify => exact answerKeeps_quietRequest _ _ _ (fun _ _ _ => rfl) s
  | getStatus => exact answerKeeps_quietRequest _ _ _ (fun _ _ _ => rfl) s
  | readCounters => exact answerKeeps_request _ (runReadCounters_keeps none) s
  | readCountersClear => exact answerKeeps_request _ (runReadCounters_keeps none) s
  | setTime => exact answerKeeps_quietRequest _ _ _ (fun _ _ _ => rfl) s
  | restart => exact answerKeeps_request _ (runRestart_keeps none) s
  | configureScan => exact answerKeeps_quietRequest _ _ _ (fun _ _ _ => rfl) s
  | configureStream => exact answerKeeps_quietRequest _ _ _ (fun _ _ _ => rfl) s
  | loadCoefficients => exact answerKeeps_quietRequest _ _ _ (fun _ _ _ => rfl) s
  | configureProfile => exact answerKeeps_quietRequest _ _ _ (fun _ _ _ => rfl) s
  | configureWatch => exact answerKeeps_quietRequest _ _ _ (fun _ _ _ => rfl) s
  | configureExternalTrigger => exact answerKeeps_quietRequest _ _ _ (fun _ _ _ => rfl) s
  | configureAcquisition => exact answerKeeps_quietRequest _ _ _ (fun _ _ _ => rfl) s
  | readConfiguration => exact answerKeeps_quietRequest _ _ _ (fun _ _ _ => rfl) s
  | startAcquisition => exact answerKeeps_request _ (runStart_keeps none) s
  | stopGraceful => exact answerKeeps_request _ (runStop_keeps none) s
  | stopImmediate => exact answerKeeps_request _ (runStop_keeps none) s
  | convertOnce => exact answerKeeps_request _ (runConvertOnce_keeps none) s
  | forceCapture => exact answerKeeps_request _ (runForceCapture_keeps none) s
  | listRecords => exact answerKeeps_quietRequest _ _ _ (fun _ _ _ => rfl) s
  | readRecord => exact answerKeeps_request _ (runReadRecord_keeps none) s
  | cancelReadout => exact answerKeeps_request _ (runCancelReadout_keeps none) s
  | releaseRecord => exact answerKeeps_request _ (runReleaseRecord_keeps none) s
  | releaseAllSealed => exact answerKeeps_request _ (runReleaseAllSealed_keeps none) s
  | acknowledgeAlarm => exact answerKeeps_quietRequest _ _ _ (fun _ id t => acknowledge_view id t) s
  | unknownRequest => exact answerKeeps_request _ (fun r t => answerRefused_keeps none r _ t) s

/-- Every step keeps the pages and the quiet of an IDLE part. -/
theorem step_keeps (s t : State) (h : step s = .next t) : KeepsCapture s t := by
  unfold step at h
  split at h
  · next c rest _ =>
    exact keepsCapture_trans (t := { s with pending := rest }) (keepsCapture_of_view rfl) (exec_keeps c _ t h)
  · obtain rfl : passMicrosecond s = t := by injection h
    unfold passMicrosecond
    split
    · exact keepsCapture_refl s
    · exact keepsCapture_trans (settle_keeps s)
        (keepsCapture_trans (elapse_keeps _ _) (keepsCapture_of_view (conclude_view _)))

/-- Settles O54: every operation hands pages between their owners, and none makes or loses one. -/
theorem pagesKeepOneOwner : Obligations.PagesKeepOneOwner := by
  intro s t h hs
  exact (step_keeps s t hs).1 h

/-- Settles O56: what acquires stays behind `acquisition`, and an arrival at IDLE quiets all of it. -/
theorem idleStaysQuiet : Obligations.IdleStaysQuiet := by
  intro s t h hs
  exact (step_keeps s t hs).2 h

end Sys2Proof.Machine
end

section
/-! PROOFS. Storage: blocks, handovers, and what a sink does with a sample (chapter 1, R51, R52). -/

namespace Sys2Proof.Machine

/-! ## The handover's arithmetic (R16) -/

/-- For a page of C positions, the pages taken and the positions skipped, by where the window begins. -/
theorem pagesTaken_none (format : Format) (f : Nat) : pagesTaken format 0 f = 0 ∧ leadingSkip format 0 f = 0 := by
  simp [pagesTaken, leadingSkip]

theorem pagesTaken_tail {format : Format} {p f : Nat} (hp : 0 < p) (hf : p ≤ f) :
    pagesTaken format p f = 1 ∧ leadingSkip format p f = f - p := by
  simp [pagesTaken, leadingSkip, hp.ne', hf]

theorem pagesTaken_older {format : Format} {p f : Nat} (hf : f < p) :
    pagesTaken format p f = 1 + ceilDiv (p - f) (positions format)
      ∧ leadingSkip format p f = ceilDiv (p - f) (positions format) * positions format + f - p := by
  have hp : p ≠ 0 := by omega
  simp [pagesTaken, leadingSkip, hp, Nat.not_le.mpr hf]

/-- The least count of pages that holds some positions (R16). -/
theorem ceilDiv_bounds (format : Format) (a : Nat) :
    a ≤ ceilDiv a (positions format) * positions format
      ∧ ceilDiv a (positions format) * positions format ≤ a + (positions format - 1)
      ∧ ∀ n, a ≤ n * positions format → ceilDiv a (positions format) ≤ n := by
  cases format <;> simp only [ceilDiv, positions] <;> refine ⟨by omega, by omega, fun n h => by omega⟩

/-- Settles O28: the least count of older pages that holds what the tail does not. -/
theorem handoverTakesExactlyTheWindow : Obligations.HandoverTakesExactlyTheWindow := by
  intro format n f p k lead C hC hn hf hfC hp hk hl
  subst hC hk hl
  rcases Nat.eq_zero_or_pos p with rfl | h₀
  · obtain ⟨hk, hl⟩ := pagesTaken_none format f
    rw [hk, hl]
    exact ⟨by omega, by omega, fun _ => ⟨rfl, rfl⟩, fun h => by omega, fun h => by omega⟩
  · rcases Nat.lt_or_ge f p with h | h
    · obtain ⟨hk, hl⟩ := pagesTaken_older (format := format) h
      obtain ⟨enough, tight, least⟩ := ceilDiv_bounds format (p - f)
      have within := least (n - 1) (by omega)
      rw [hk, hl]
      refine ⟨by omega, by omega, fun h => by omega, fun _ h => by omega, fun _ => ⟨rfl, ?_⟩⟩
      rw [Nat.add_sub_cancel_left]
      omega
    · obtain ⟨hk, hl⟩ := pagesTaken_tail (format := format) h₀ h
      rw [hk, hl]
      exact ⟨by omega, by omega, fun h => by omega, fun _ _ => ⟨rfl, rfl⟩, fun h => by omega⟩

/-! ## What a sink does with a sample (R10, R11, R13, R14) -/

theorem hasRoom_eq_true {format : Format} {run : PageRun} :
    hasRoom format run = true ↔ run.pages ≠ [] ∧ run.fill < positions format := by simp [hasRoom]

theorem hasRoom_eq_false {format : Format} {run : PageRun} :
    hasRoom format run = false ↔ run.pages = [] ∨ positions format ≤ run.fill := by
  simp only [hasRoom, Bool.and_eq_false_iff, Bool.not_eq_false', List.isEmpty_iff, decide_eq_false_iff_not, Nat.not_lt]

/-- A ring with room stores the sample on its tail (R10). -/
theorem ringStore_room {k : Fin 16} {x : Sample} {s : State} (h : hasRoom s.streams[k].format s.rings[k].run = true) :
    ringStore k x s
      = setRing k { s.rings[k] with run := storeSample s.streams[k].format x s.rings[k].run } s := by
  rw [ringStore, if_pos h]

/-- A ring at its depth recycles (R10). -/
theorem ringStore_recycle {k : Fin 16} {x : Sample} {s : State}
    (h : hasRoom s.streams[k].format s.rings[k].run = false)
    (hl : s.streams[k].history ≤ s.rings[k].run.pages.length) :
    ringStore k x s
      = setRing k { s.rings[k] with run := storeSample s.streams[k].format x (recycle s.rings[k].run) } s := by
  rw [ringStore, if_neg (Bool.not_eq_true _ ▸ h), if_neg (by omega)]

/-- A ring below its depth asks for a page (R10). -/
theorem ringStore_grow {k : Fin 16} {x : Sample} {s : State} (h : hasRoom s.streams[k].format s.rings[k].run = false)
    (hl : s.rings[k].run.pages.length < s.streams[k].history) : ringStore k x s = ringGrow k x s := by
  rw [ringStore, if_neg (Bool.not_eq_true _ ▸ h), if_pos hl]

/-- A page request above its level takes the head of the free list; at or below it none (R5). -/
theorem takePage_granted {level : Nat} {s : State} {p : Page} {rest : List Page} (hf : s.free = p :: rest)
    (hl : level < s.free.length) : takePage level s = some (p, { s with free := rest }) := by
  rw [hf] at hl
  simp only [takePage, hf, if_pos hl]

theorem takePage_refused {level : Nat} {s : State} (hl : s.free.length ≤ level) : takePage level s = none := by
  unfold takePage
  split
  · exact if_neg (by omega)
  · rfl

theorem recycle_cons {run : PageRun} {p : Page} {rest : List Page} (h : run.pages = p :: rest) :
    recycle run = { pages := rest ++ [{ p with content := [] }], fill := 0, pendingBlock := [] } := by
  simp [recycle, h, blankPage]

/-- A post sample is stored in the part that its stream has in the record (R13). -/
theorem captureStore_room {n : Nat} {k : Fin 16} {x : Sample} {s : State} {r : CaptureRecord} {p : StreamPart}
    (hr : findRecord n s = some r) (hp : findPart k r = some p) (h : hasRoom p.format p.run = true) :
    captureStore n k x s = changePart n k (countPost (storeSample p.format x p.run)) s := by
  simp [captureStore, hr, hp, h]

/-- A full tail asks for a page (R13). -/
theorem captureStore_grow {n : Nat} {k : Fin 16} {x : Sample} {s : State} {r : CaptureRecord} {p : StreamPart}
    {page : Page} {rest : List Page} (hr : findRecord n s = some r) (hp : findPart k r = some p)
    (h : hasRoom p.format p.run = false) (hf : s.free = page :: rest) :
    captureStore n k x s
      = changePart n k (countPost (storeSample p.format x (joinPage page p.run))) { s with free := rest } := by
  have granted : recordRequest s = some (page, { s with free := rest }) := takePage_granted hf (by simp [hf])
  simp [captureStore, hr, hp, h, granted]

/-- With no page left the window is cut (R14). -/
theorem captureStore_cut {n : Nat} {k : Fin 16} {x : Sample} {s : State} {r : CaptureRecord} {p : StreamPart}
    (hr : findRecord n s = some r) (hp : findPart k r = some p) (h : hasRoom p.format p.run = false)
    (hf : s.free = []) : captureStore n k x s = cutWindow n k s := by
  have refused : recordRequest s = none := takePage_refused (by simp [hf])
  simp [captureStore, hr, hp, h, refused]

/-- Settles O27, by the room of the tail, the depth of the ring and the free list. -/
theorem samplesAreStoredByTheirSink : Obligations.SamplesAreStoredByTheirSink := by
  refine ⟨fun k x s run format hrun hformat => ?_, fun n k x s r p hr hp => ⟨fun hne hf => ?_, fun hfull => ?_⟩⟩
  · subst hrun hformat
    refine ⟨fun hne hf => ringStore_room (hasRoom_eq_true.mpr ⟨hne, hf⟩), fun p rest hpages hf hl => ?_,
      fun hfull hl => ?_⟩
    · rw [ringStore_recycle (hasRoom_eq_false.mpr (.inr hf)) hl, recycle_cons hpages]
    · rw [ringStore_grow (hasRoom_eq_false.mpr hfull) hl, ringGrow]
      refine ⟨fun p rest hfree hr => ?_, fun p rest hr hpages => ?_, fun hr hpages => ?_⟩
      · have granted : ringRequest s = some (p, { s with free := rest }) := takePage_granted hfree hr
        simp only [granted]
        rfl
      · have refused : ringRequest s = none := takePage_refused hr
        simp only [refused, recycle_cons hpages, hpages, List.isEmpty_cons, Bool.false_eq_true, if_false]
      · have refused : ringRequest s = none := takePage_refused hr
        simp only [refused, hpages, List.isEmpty_nil, if_true]
  · rw [captureStore_room hr hp (hasRoom_eq_true.mpr ⟨hne, hf⟩)]
    rfl
  · have full := hasRoom_eq_false.mpr hfull
    exact ⟨fun page rest hf => captureStore_grow hr hp full hf, fun hf => captureStore_cut hr hp full hf⟩

end Sys2Proof.Machine
end

section
namespace Sys2Proof.Machine

/-! ## Blocks and stored samples (R3, R4, R15, R51, R52) -/

/-- The newest page of a list is its tail. -/
theorem onTail_append (f : Page → Page) (older : List Page) (tail : Page) :
    onTail f (older ++ [tail]) = older ++ [f tail] := by
  induction older using onTail.induct with
  | case1 => rfl
  | case2 p => rfl
  | case3 p q rest ih => simpa only [onTail, List.cons_append, List.cons.injEq, true_and] using ih

theorem shiftFits_iff {n : Nat} {samples : List Sample} :
    shiftFits n samples = true ↔
      ∀ x ∈ samples, -128 ≤ x.toInt / (2 ^ n : Nat) ∧ x.toInt / (2 ^ n : Nat) ≤ 127 := by
  unfold shiftFits shiftedDown
  rw [List.all_eq_true]
  exact forall₂_congr fun x _ => decide_eq_true_iff

/-- A shift of 8 fits every sample (R51). -/
theorem shiftFits_eight (samples : List Sample) : shiftFits 8 samples = true := by
  refine shiftFits_iff.mpr fun x _ => ?_
  have low := x.le_two_mul_toInt
  have high := x.two_mul_toInt_lt
  norm_num at low high ⊢
  omega

/-- The shift of a block fits it and is the least that does (R51). -/
theorem blockShift_spec (samples : List Sample) :
    blockShift samples ≤ 8 ∧ shiftFits (blockShift samples) samples = true
      ∧ ∀ n < blockShift samples, shiftFits n samples = false := by
  have tried : ([0, 1, 2, 3, 4, 5, 6, 7] : List Nat) = List.range 8 := rfl
  rw [blockShift, tried]
  cases found : (List.range 8).find? fun n => shiftFits n samples with
  | none =>
    refine ⟨le_refl 8, shiftFits_eight samples, fun n hn => ?_⟩
    simpa using List.find?_eq_none.mp found n (List.mem_range.mpr hn)
  | some n =>
    obtain ⟨fits, hn, before⟩ := List.find?_range_eq_some.mp found
    exact ⟨(List.mem_range.mp hn).le, fits, fun m hm => by simpa using before m hm⟩

/-- A mantissa in range is floor(x / 2^s) (R52). -/
theorem mantissa_toInt {n : Nat} {x : Sample} (h : -128 ≤ x.toInt / (2 ^ n : Nat) ∧ x.toInt / (2 ^ n : Nat) ≤ 127) :
    (mantissa n x).toInt = x.toInt / (2 ^ n : Nat) := by
  rw [mantissa, shiftedDown, BitVec.toInt_ofInt]
  exact Int.bmod_eq_of_le h.1 (Int.lt_of_le_of_lt h.2 (by decide))

/-- Settles O18: the samples stored in pages, and the shift that `find?` takes first. -/
theorem blocksTakeTheLeastShift : Obligations.BlocksTakeTheLeastShift := by
  refine ⟨fun x older tail fill block run hrun => ?_, fun samples _ => ?_⟩
  · subst hrun
    refine ⟨?_, fun h => ?_, fun h => ?_, fun h => ?_, fun h => ?_⟩
    · simp only [storeSample, onTail_append]
      rfl
    · exact if_pos (Nat.succ_lt_succ h)
    · simp [storeSample, blockPositions, h, onTail_append, writeBytes]
    · simp [encodePending, h, onTail_append, writeBytes]
    · simp [encodePending, h]
  · obtain ⟨bound, fits, least⟩ := blockShift_spec samples
    rw [shiftFits_iff] at fits
    refine ⟨bound, fits, fun n hn => ?_, fun x hx => ?_, rfl⟩
    · by_contra h
      have := least n hn
      rw [Bool.eq_false_iff, Ne, shiftFits_iff] at this
      exact this fun x hx => by_contra fun hc => h ⟨x, hx, hc⟩
    · have positive : (0 : Int) < (2 ^ blockShift samples : Nat) := by positivity
      rw [mantissa_toInt (fits x hx)]
      refine ⟨Int.ediv_mul_le _ positive.ne', ?_⟩
      have := Int.lt_ediv_add_one_mul_self x.toInt positive
      rw [Int.add_mul] at this
      omega

end Sys2Proof.Machine
end

section
/-! PROOFS. The requests of this family: releases, and the Start of a run (R47 to R49, R123 to R125, R209, R210). -/

namespace Sys2Proof.Machine

/-! ## One record of the table (R33) -/

/-- With distinct numbers, the other records have other numbers. -/
theorem numbers_of_split {before after : List CaptureRecord} {x : CaptureRecord}
    (h : ((before ++ x :: after).map fun r => r.number).Nodup) :
    (∀ r ∈ before, r.number ≠ x.number) ∧ ∀ r ∈ after, r.number ≠ x.number := by
  rw [List.map_append, List.map_cons, List.nodup_middle, List.nodup_cons, ← List.map_append] at h
  exact ⟨fun r hr e => h.1 (e ▸ List.mem_map_of_mem (List.mem_append_left _ hr)),
    fun r hr e => h.1 (e ▸ List.mem_map_of_mem (List.mem_append_right _ hr))⟩

/-- The records of a number, and those of the others. -/
theorem filter_number_split {before after : List CaptureRecord} {x : CaptureRecord} {n : Nat} (hx : x.number = n)
    (hb : ∀ r ∈ before, r.number ≠ n) (ha : ∀ r ∈ after, r.number ≠ n) :
    ((before ++ x :: after).filter fun r => r.number == n) = [x]
      ∧ ((before ++ x :: after).filter fun r => !(r.number == n)) = before ++ after := by
  constructor
  · rw [List.filter_append, List.filter_cons_of_pos (by simp [hx]),
      List.filter_eq_nil_iff.mpr fun r hr => by simp [hb r hr], List.filter_eq_nil_iff.mpr fun r hr => by simp [ha r hr]]
    rfl
  · rw [List.filter_append, List.filter_cons_of_neg (by simp [hx]),
      List.filter_eq_self.mpr fun r hr => by simp [hb r hr], List.filter_eq_self.mpr fun r hr => by simp [ha r hr]]

theorem filter_number {s : State} (hn : (recordNumbers s).Nodup) {r : CaptureRecord} (hr : r ∈ s.records) :
    (s.records.filter fun x => x.number == r.number) = [r] := by
  obtain ⟨before, after, e⟩ := List.append_of_mem hr
  rw [recordNumbers, e] at hn
  obtain ⟨hb, ha⟩ := numbers_of_split hn
  rw [e]
  exact (filter_number_split rfl hb ha).1

/-- A removal of a record that stands at its place in the table. -/
theorem removeRecord_split {s : State} {before after : List CaptureRecord} {x : CaptureRecord} {n : Nat}
    (h : s.records = before ++ x :: after) (hx : x.number = n) (hb : ∀ r ∈ before, r.number ≠ n)
    (ha : ∀ r ∈ after, r.number ≠ n) :
    removeRecord n s
      = { s with records := before ++ after, free := s.free ++ (recordPages x).map blankPage } := by
  obtain ⟨removed, left⟩ := filter_number_split hx hb ha
  rw [removeRecord_eq, h, removed, left]
  simp

theorem changeFirst_append {α : Type} {picks : α → Bool} (f : α → α) {before after : List α} {x : α}
    (hb : ∀ y ∈ before, picks y = false) (hx : picks x = true) :
    changeFirst picks f (before ++ x :: after) = before ++ f x :: after := by
  induction before with
  | nil => simp [changeFirst, hx]
  | cons y rest ih =>
    simp [changeFirst, hb y List.mem_cons_self, ih fun z hz => hb z (List.mem_cons_of_mem y hz)]

/-! ## Release Record (R47, R48, R209) -/

/-- A number of 16 bits, sent low byte first. -/
theorem valueOf_lowFirst {n : Nat} (h : n ≤ 65535) : valueOf [byteOf n, byteOf (n / 256)] = n := by
  simp only [valueOf, byteOf, BitVec.toNat_ofNat]
  omega

theorem readRecordNumber_lowFirst {n : Nat} (h₁ : 1 ≤ n) (h₂ : n ≤ 65535) :
    readRecordNumber [byteOf n, byteOf (n / 256)] = .ok n := by
  have value := valueOf_lowFirst h₂
  have nonzero : n ≠ 0 := by omega
  simp only [readRecordNumber, value, checkFields]
  rw [decide_eq_true nonzero]
  rfl

/-- The record that a readout names, of a table that matches the readout (R61). -/
theorem readout_of_reading {s : State} (h : ReadingMatchesReadout s) {x : CaptureRecord} (hx : x ∈ s.records)
    (hr : x.state = .reading) : s.readout.record = x.number := by
  have among : x.number ∈ (s.records.filter isReading).map fun r => r.number :=
    List.mem_map_of_mem (List.mem_filter.mpr ⟨hx, by simp [isReading, hr]⟩)
  rw [h] at among
  split at among
  · cases among
  · exact (List.mem_singleton.mp among).symm

/-- A release refused: the table has no such record, or it is OPEN. -/
theorem checkRelease_none {s : State} {n : Nat} (h : findRecord n s = none) :
    checkRelease s n = refuse .noRecord 0xFF := by simp only [checkRelease, h]

theorem checkRelease_some {s : State} {n : Nat} {x : CaptureRecord} (h : findRecord n s = some x) :
    checkRelease s n = if isOpen x then refuse .notSealed 0xFF else .ok x := by
  simp only [checkRelease, h, unlessOk]
  cases isOpen x <;> rfl

/-- A READING record is released after its readout (R48): the notice, then the removal. -/
theorem releaseRecord_reading {s : State} {x : CaptureRecord} {before after : List CaptureRecord}
    (h : s.records = before ++ x :: after) (hb : ∀ r ∈ before, r.number ≠ x.number)
    (ha : ∀ r ∈ after, r.number ≠ x.number) (hr : x.state = .reading) (hd : s.readout.record = x.number)
    (hh : s.dispatcher.held = some []) :
    releaseRecord x s
      = { s with
          records := before ++ after
          free := s.free ++ (recordPages x).map blankPage
          readout := resetReadout
          transmit := { s.transmit with bulk := s.transmit.bulk.map fun c => { c with ofReadout := false } }
          dispatcher := { s.dispatcher with
            held := some [.readoutEnded x.number .released s.readout.offset] } } := by
  have changed : changeFirst (fun r => r.number == x.number) (fun r => { r with state := .closed }) s.records
      = before ++ { x with state := .closed } :: after := by
    rw [h]; exact changeFirst_append _ (fun r hm => by simpa using hb r hm) (by simp)
  have ended : endReadout .released s
      = { s with
          records := before ++ { x with state := .closed } :: after
          readout := resetReadout
          transmit := { s.transmit with bulk := s.transmit.bulk.map fun c => { c with ofReadout := false } }
          dispatcher := { s.dispatcher with
            held := some [.readoutEnded x.number .released s.readout.offset] } } := by
    rw [endReadout, raiseNotice_held _ (disownChunk (releaseReadout s)) [] hh, ← changed, ← hd]
    rfl
  rw [releaseRecord, if_pos hr, ended,
    removeRecord_split (x := { x with state := .closed }) rfl rfl hb ha]
  rfl

/-- Release Record, by the state of its record. -/
theorem runReleaseRecord_answers {r : Request} {u : State} {n : Nat} (h₁ : 1 ≤ n) (h₂ : n ≤ 65535)
    (hp : r.payload = [byteOf n, byteOf (n / 256)]) (hu : RecordTableSound u) :
    (n ∉ recordNumbers u → runReleaseRecord none r u = refusedWith r .noRecord 0xFF u)
    ∧ ∀ (before after : List CaptureRecord) (x : CaptureRecord), u.records = before ++ x :: after → x.number = n →
      (x.state = .opened → runReleaseRecord none r u = refusedWith r .notSealed 0xFF u)
      ∧ (x.state = .closed → runReleaseRecord none r u = replied r []
          { u with records := before ++ after, free := u.free ++ (recordPages x).map blankPage })
      ∧ (x.state = .reading → runReleaseRecord none r u = offered [.readoutEnded n .released u.readout.offset]
          (replied r []
            { u with
              records := before ++ after
              free := u.free ++ (recordPages x).map blankPage
              readout := resetReadout
              transmit := { u.transmit with
                bulk := u.transmit.bulk.map fun chunk => { chunk with ofReadout := false } } })) := by
  have read : runReleaseRecord none r u
      = answer none r (checkRelease u n) (fun x t => (releaseRecord x t, [])) u := by
    rw [runReleaseRecord, hp, readRecordNumber_lowFirst h₁ h₂]
    rfl
  obtain ⟨⟨-, nodup, -⟩, reading⟩ := hu
  refine ⟨fun hn => ?_, fun before after x hr hx => ?_⟩
  · have absent : findRecord n u = none := List.find?_eq_none.mpr fun y hy => by
      simpa using fun e : y.number = n => hn (e ▸ List.mem_map_of_mem hy)
    rw [read, checkRelease_none absent]
    exact answerRefused_eq r .noRecord 0xFF u
  · subst hx
    have among : x ∈ u.records := by rw [hr]; simp
    have verdict := checkRelease_some (findRecord_of_mem nodup among)
    obtain ⟨hb, ha⟩ := numbers_of_split (by rwa [recordNumbers, hr] at nodup)
    rw [read, verdict]
    refine ⟨fun hs => ?_, fun hs => ?_, fun hs => ?_⟩
    · simp only [isOpen, hs, decide_true, if_true]
      exact answerRefused_eq r .notSealed 0xFF u
    · simp only [isOpen, hs, reduceCtorEq, decide_false, Bool.false_eq_true, if_false]
      have effect : releaseRecord x (holdNotices u) = holdNotices
          { u with records := before ++ after, free := u.free ++ (recordPages x).map blankPage } := by
        rw [releaseRecord, if_neg (by simp [hs])]
        exact removeRecord_split (s := holdNotices u) hr rfl hb ha
      exact answerAccepted_quiet r (fun t => (releaseRecord x t, [])) u _ [] (by rw [effect])
    · simp only [isOpen, hs, reduceCtorEq, decide_false, Bool.false_eq_true, if_false]
      have effect := releaseRecord_reading (s := holdNotices u) hr hb ha hs (readout_of_reading reading among hs) rfl
      exact answerAccepted_eq r (fun t => (releaseRecord x t, [])) u _ [] _ (by rw [effect]; rfl)

/-! ## Release All Sealed (R49, R210) -/

/-- Records removed one after another: their pages stand on the free list in that order (R18). -/
theorem foldl_removeRecord (l : List Nat) (hl : l.Nodup) (s : State) :
    l.foldl (fun t n => removeRecord n t) s
      = { s with
          records := s.records.filter fun r => !decide (r.number ∈ l)
          free := s.free ++ (l.flatMap fun n => (s.records.filter fun r => r.number == n).flatMap recordPages).map
            blankPage } := by
  induction l generalizing s with
  | nil => simp
  | cons n rest ih =>
    obtain ⟨hn, hrest⟩ := List.nodup_cons.mp hl
    have others : (rest.flatMap fun m => ((s.records.filter fun r => !(r.number == n)).filter
          fun r => r.number == m).flatMap recordPages)
        = rest.flatMap fun m => (s.records.filter fun r => r.number == m).flatMap recordPages := by
      refine List.flatMap_congr fun m hm => ?_
      have other : ∀ r : CaptureRecord, (r.number == m && !(r.number == n)) = (r.number == m) := by
        intro r
        by_cases e : r.number = m
        · have : m ≠ n := fun e => hn (e ▸ hm)
          simp [e, this]
        · simp [e]
      simp only [List.filter_filter, other]
    have left : ((s.records.filter fun r => !(r.number == n)).filter fun r => !decide (r.number ∈ rest))
        = s.records.filter fun r => !decide (r.number ∈ n :: rest) := by
      rw [List.filter_filter]
      refine List.filter_congr fun r _ => ?_
      by_cases e : r.number = n <;> simp [e]
    rw [List.foldl_cons, ih hrest, removeRecord_eq]
    simp only [others, left, List.flatMap_cons, List.map_append, List.append_assoc]

/-- The SEALED records leave the table, and their pages return in table order (R49). -/
theorem releaseSealed_eq {s : State} (hn : (recordNumbers s).Nodup) :
    releaseSealed s
      = { s with
          records := s.records.filter fun x => decide (x.state ≠ .closed)
          free := s.free ++ ((s.records.filter fun x => decide (x.state = .closed)).flatMap recordPages).map
            blankPage } := by
  have distinct : (sealedNumbers s).Nodup := hn.sublist (List.filter_sublist.map _)
  have pages : ((sealedNumbers s).flatMap fun n => (s.records.filter fun r => r.number == n).flatMap recordPages)
      = (s.records.filter fun x => decide (x.state = .closed)).flatMap recordPages := by
    rw [sealedNumbers, List.flatMap_map]
    refine List.flatMap_congr fun r hr => ?_
    rw [filter_number hn (List.mem_of_mem_filter hr)]
    simp
  have left : (s.records.filter fun r => !decide (r.number ∈ sealedNumbers s))
      = s.records.filter fun x => decide (x.state ≠ .closed) := by
    refine List.filter_congr fun r hr => ?_
    have among : r.number ∈ sealedNumbers s ↔ r.state = .closed := by
      constructor
      · intro h
        obtain ⟨u, hu, e⟩ := List.mem_map.mp h
        obtain ⟨hu, hc⟩ := List.mem_filter.mp hu
        have same := filter_number hn hr
        rw [← e, filter_number hn hu] at same
        rw [← List.singleton_inj.mp same]
        simpa using hc
      · exact fun h => List.mem_map_of_mem (List.mem_filter.mpr ⟨hr, by simpa using h⟩)
    simp [among]
  rw [releaseSealed, foldl_removeRecord _ distinct, pages, left]

/-- Settles O53: a removal takes one record from its place, and the pages of the SEALED ones return in table order. -/
theorem releasesReturnTheirPages : Obligations.ReleasesReturnTheirPages := by
  refine ⟨fun r s u n hf ht h₁ h₂ hp hu => ?_, fun r s u gone hf ht hp hu hg => ?_⟩
  · have taken : exec .releaseRecord s = .next (conclude (runReleaseRecord none r u)) := by
      show Host.Outcome.next (takeEvent (carryOut (ofType 0x33) (runReleaseRecord none)) s) = _
      rw [carryOut_finds r (ofType 0x33) (runReleaseRecord none) hf (by simp [ofType, ht])]
    obtain ⟨absent, present⟩ := runReleaseRecord_answers (r := r) h₁ h₂ hp hu
    refine ⟨fun hn => by rw [taken, absent hn], fun before after x hr hx => ?_⟩
    obtain ⟨ho, hc, hd⟩ := present before after x hr hx
    exact ⟨fun h => by rw [taken, ho h], fun h => by rw [taken, hc h], fun h => by rw [taken, hd h]⟩
  · have taken : exec .releaseAllSealed s = .next (conclude (runReleaseAllSealed none r u)) := by
      show Host.Outcome.next (takeEvent (carryOut (ofType 0x34) (runReleaseAllSealed none)) s) = _
      rw [carryOut_finds r (ofType 0x34) (runReleaseAllSealed none) hf (by simp [ofType, ht])]
    obtain ⟨-, nodup, -⟩ := hu
    subst hg
    have released := releaseSealed_eq (s := holdNotices u) nodup
    have count : (sealedNumbers (holdNotices u)).length
        = (u.records.filter fun x => decide (x.state = .closed)).length := List.length_map _
    have answered := answerAccepted_quiet r (fun t => (releaseSealed t, [byteOf (sealedNumbers t).length])) u
      { u with
        records := u.records.filter fun x => decide (x.state ≠ .closed)
        free := u.free ++ ((u.records.filter fun x => decide (x.state = .closed)).flatMap recordPages).map blankPage }
      [byteOf (u.records.filter fun x => decide (x.state = .closed)).length] (by rw [released, count]; rfl)
    have run : runReleaseAllSealed none r u
        = answerAccepted none r (fun t => (releaseSealed t, [byteOf (sealedNumbers t).length])) u := by
      rw [runReleaseAllSealed, hp]
      rfl
    rw [taken, run, answered]

end Sys2Proof.Machine
end

section
/-! PROOFS. The reset: its invariants, and the part that POWER_ON_RESET leaves (R21, R146, R221). -/

namespace Sys2Proof.Machine

/-! ## The end of a reset (R146, R153) -/

/-- With no entry PENDING, none moves (R137). -/
theorem movePending_none {s : State} (h : s.alarms.find? isPending = none) : movePending s = s := by
  have once : moveOldestPending s = s := by
    unfold moveOldestPending
    split
    · simp only [h]
    · rfl
  simp only [movePending, once]

/-- With no request waiting, the Dispatcher takes none (R183). -/
theorem takeRequest_none {s : State} (h : s.inbound = []) : takeRequest s = s := by
  unfold takeRequest
  rw [h]
  cases s.dispatcher.state <;> rfl

/-- An event that leaves no entry PENDING and no request waiting: an idle line decides, and nothing else follows. -/
theorem conclude_decides {s : State} (ha : s.alarms = []) (hi : s.inbound = []) : conclude s = decideIdle s := by
  have view : ∀ t : State, (∃ transmit readout, t = { s with transmit := transmit, readout := readout }) →
      movePending t = t ∧ takeRequest t = t := by
    rintro _ ⟨transmit, readout, rfl⟩
    exact ⟨movePending_none (by simp [ha]), takeRequest_none hi⟩
  have decided : ∃ transmit readout, decideIdle s = { s with transmit := transmit, readout := readout } := by
    unfold decideIdle
    split
    · exact chooseFrame_shape s
    · exact ⟨_, _, rfl⟩
  rw [conclude, (view s ⟨_, _, rfl⟩).1, (view _ decided).1, (view _ decided).2]

/-- With nothing in transmission and no URGENT frame, an idle line begins the oldest NORMAL frame (R171, R173). -/
theorem chooseFrame_normal {s : State} {f : Frame} {rest : List Frame} (hu : s.transmit.urgent = [])
    (hn : s.transmit.normal = f :: rest) (hs : s.transmit.suspended = []) :
    chooseFrame s = startFrame f { s with transmit := { s.transmit with normal := rest } } := by
  have outranks : outranksStack .normal s = true := by simp only [outranksStack, hs]
  simp only [chooseFrame, hu, hn, outranks, if_true]

/-- A reset that ends queues its RESTARTED notice (R146). -/
theorem endReset_eq (cause : RestartCause) (pins : PinLevels) (s : State) :
    endReset cause pins s
      = { resetBlocks s with
          pins := { convIn := pins.convIn, trigIn := pins.trigIn, trigOut := none }
          transmit := { resetTransmit (strappedRate pins) with normal := [noticeFrame (.restarted cause)] } } := by
  rw [endReset, raiseNotice_free _ _ rfl, offerNotice, if_pos (by rfl)]
  rfl

/-- The part as a reset leaves it, with the OPEN of its notice on TXD (R146, R173). -/
theorem conclude_endReset (cause : RestartCause) (pins : PinLevels) (s : State) :
    conclude (endReset cause pins s) = afterReset cause pins s := by
  rw [endReset_eq, conclude_decides rfl rfl, decideIdle_idle _ rfl rfl, chooseFrame_normal rfl rfl rfl]
  rfl

/-- Settles O5: the notice of the reset is the only frame, and every block has its reset value. -/
theorem powerOnResetStartsThePartAfresh : Obligations.PowerOnResetStartsThePartAfresh :=
  ⟨fun pins s => congrArg Host.Outcome.next (conclude_endReset .power pins s), rfl⟩

/-! ## The reset meets every invariant -/

theorem recordTableSound_reset : RecordTableSound State.reset := ⟨idleIsQuiet_reset.1, rfl⟩

theorem armedOnlyWhileRunning_reset : ArmedOnlyWhileRunning State.reset := by
  refine ⟨fun w => ?_, fun h => absurd rfl h⟩
  have fresh : State.reset.watches[w] = resetWatch := by simp [State.reset]
  rw [fresh]
  exact ⟨fun h => absurd rfl h, fun _ => rfl⟩

theorem alarmListSound_reset : AlarmListSound State.reset :=
  ⟨Nat.zero_le _, List.nodup_nil, (fun _ h => nomatch h), Nat.zero_le _⟩

theorem queuesBounded_reset : QueuesBounded State.reset :=
  ⟨Nat.zero_le _, Nat.zero_le _, Nat.zero_le _, (fun h => nomatch h), by decide⟩

theorem countsBounded_reset : CountsBounded State.reset := by
  refine ⟨fun i => ?_, (fun _ h => nomatch h), by decide⟩
  have zero : State.reset.counters[i] = resetCounter := by simp [State.reset]
  rw [zero]
  exact Nat.zero_le _

theorem nestingLegal_reset : NestingLegal State.reset :=
  ⟨.nil, Nat.zero_le _, (fun _ h => nomatch h), (fun _ h => nomatch h)⟩

/-- Settles O60: the reset values meet each invariant. -/
theorem resetMeetsEveryInvariant : Obligations.ResetMeetsEveryInvariant :=
  ⟨pagesConserved_reset, recordTableSound_reset, idleIsQuiet_reset, armedOnlyWhileRunning_reset, alarmListSound_reset,
    queuesBounded_reset, countsBounded_reset, nestingLegal_reset⟩

end Sys2Proof.Machine
end

section
namespace Sys2Proof.Machine

/-! ## The checks of a Start (R23, R123, R124) -/

/-- The first entry that a test picks, of those that it could. -/
theorem find?_finRange {n : Nat} {p : Fin n → Bool} {k : Fin n} (hk : p k = true) (h : ∀ j < k, p j = false) :
    (List.finRange n).find? p = some k := by
  refine List.find?_eq_some_iff_getElem.mpr ⟨hk, k.val, by simp, by simp, fun j hj => ?_⟩
  simpa using h ⟨j, hj.trans k.isLt⟩ hj

theorem mem_maskStreams {mask : StreamMask} {k : Fin 16} : k ∈ maskStreams mask ↔ mask.getLsbD k.val = true := by
  simp [maskStreams, allStreams_eq, inMask]

/-- A mask holds a stream unless it is 0 (R197). -/
theorem maskStreams_isEmpty {mask : StreamMask} (h : mask ≠ 0) : (maskStreams mask).isEmpty = false := by
  rw [Bool.eq_false_iff, Ne, List.isEmpty_iff]
  intro hm
  refine h (BitVec.eq_of_getLsbD_eq fun i hi => ?_)
  have absent : (⟨i, hi⟩ : Fin 16) ∉ maskStreams mask := by simp [hm]
  rw [mem_maskStreams] at absent
  simpa using absent

theorem usableProfile_of {p : Fin 4} {s : State} (h : ProfileUsable p s) : usableProfile p s = true := by
  obtain ⟨nonempty, enabled⟩ := h
  have streams : (maskStreams s.profiles[p].mask).all (fun k => s.streams[k].enabled) = true :=
    List.all_eq_true.mpr fun k hk => enabled k (mem_maskStreams.mp hk)
  rw [usableProfile, maskStreams_isEmpty nonempty, streams]
  rfl

theorem usableOrNone_of {p : Option (Fin 4)} {s : State} (h : ∀ q, p = some q → ProfileUsable q s) :
    usableOrNone p s = true := by
  cases p with
  | none => rfl
  | some q => exact usableProfile_of (h q rfl)

theorem watchPasses_of {d : WatchDefinition} {s : State} (h : WatchSound d s) : watchPasses d s = true := by
  unfold watchPasses
  cases hd : d.enabled with
  | false => rfl
  | true =>
    obtain ⟨stream, profile⟩ := h hd
    rw [stream, usableOrNone_of profile]
    rfl

theorem externalPasses_of {d : ExternalDefinition} {s : State} (h : ExternalSound d s) : externalPasses d s = true := by
  unfold externalPasses
  cases hd : d.enabled with
  | false => rfl
  | true => rw [usableOrNone_of (h hd)]; rfl

theorem isLoaded_of {k : Fin 16} {s : State} (h : StreamLoaded k s) (hk : s.streams[k].enabled = true) :
    isLoaded s.streams[k].filter s = true := by
  unfold isLoaded
  split
  · rfl
  · next set hset =>
    have loaded := h hk set hset
    cases hc : s.coefficients[set].coefficients with
    | nil => exact absurd hc loaded
    | cons c rest => rfl

theorem mem_enabledStreams {s : State} {k : Fin 16} : k ∈ enabledStreams s ↔ s.streams[k].enabled = true := by
  simp only [enabledStreams, allStreams_eq, List.mem_filter, List.mem_finRange, true_and]

/-- The sum over the enabled streams, spelled over all of them. -/
theorem historySum_eq (s : State) : historySum s = enabledHistory s := by
  unfold historySum enabledHistory enabledStreams
  rw [allStreams_eq]
  induction List.finRange 16 with
  | nil => rfl
  | cons k rest ih =>
    simp only [List.filter_cons, List.map_cons, List.sum_cons, ← ih]
    cases s.streams[k].enabled
    · rw [if_neg nofun, if_neg nofun, Nat.zero_add]
    · rfl

/-- A Start that passes every check (R123, R124). -/
theorem checkStart_ok {s : State} (hi : s.acquisition = .idle) (hc : StreamsChosen s) (hs : SourcesSound s)
    (hh : enabledHistory s ≤ 128) (hp : PaceSound s) : checkStart s = .ok () := by
  obtain ⟨hscan, k, hk⟩ := hc
  obtain ⟨streams, watches, external⟩ := hs
  have idle : decide (s.acquisition = .idle) = true := decide_eq_true hi
  have chosen : (!s.scan.isEmpty && !(enabledStreams s).isEmpty) = true := by
    have scan : s.scan.isEmpty = false := by simpa using hscan
    have enabled : (enabledStreams s).isEmpty = false := by
      simpa using List.ne_nil_of_mem (mem_enabledStreams.mpr hk)
    rw [scan, enabled]
    rfl
  have slotted : slotless s = none := List.find?_eq_none.mpr fun j hj => by
    simpa using (streams j).1 (mem_enabledStreams.mp hj)
  have loaded : unloaded s = none := List.find?_eq_none.mpr fun j hj => by
    rw [isLoaded_of (streams j).2 (mem_enabledStreams.mp hj)]
    nofun
  have judged : failingWatch s = none := List.find?_eq_none.mpr fun w _ => by
    rw [watchPasses_of (watches w)]
    nofun
  have history : decide (historySum s ≤ historyTotal) = true := decide_eq_true (historySum_eq s ▸ hh)
  have pace : paceFits s = true := by
    unfold paceFits
    by_cases h : s.settings.source = .paced
    · simp [h, hp h]
    · simp [h]
  simp only [checkStart, idle, chosen, slotted, loaded, judged, externalPasses_of external, history, pace,
    Option.isNone_none, unlessOk, if_true]

/-! ## The run that a Start begins (R20, R80, R88, R98, R125) -/

/-- The filters that a Start primes (R112). -/
def primedFilters (s : State) : Vector FilterState 16 :=
  Vector.ofFn fun k : Fin 16 => if s.streams[k].enabled = true then primed (tapsOf k s) else s.filters[k]

/-- The part that runs, up to its first round. -/
def startedQuietly (s : State) : State :=
  { s with
    filters := primedFilters s
    free := s.free ++ ringPages s
    rings := Vector.replicate 16 emptyRing
    sinks := s.streams.map startSink
    watches := s.watches.map armWatch
    external := armExternal s.external
    acquisition := .running
    triggers := s.triggers.map agedTrigger }

/-- The first stream that a round converts is the first enabled one (R91). -/
theorem convertedStreams_head {s : State} {k : Fin 16} (hk : s.streams[k].enabled = true) (hl : k.val < s.scan.length)
    (hf : ∀ j < k, s.streams[j].enabled = false) : (convertedStreams s).head? = some k := by
  rw [convertedStreams, allStreams_eq, List.head?_filter]
  refine find?_finRange (by rw [hk]; simpa using hl) fun j hj => ?_
  rw [hf j hj]
  rfl

/-- Under PACED the first round begins and the pacer runs (R98). -/
theorem startRounds_eq {s : State} {k : Fin 16} (first : (convertedStreams s).head? = some k) :
    startRounds s = { s with
      round := if s.settings.source = .paced then .inRound s.clock.timebase k (conversionTime k s) else s.round
      pacer := if s.settings.source = .paced then
          .running (microseconds s.settings.period) (microseconds s.settings.period) else s.pacer } := by
  unfold startRounds beginRound
  rw [first]
  cases s.settings.source <;> rfl

/-- The run that a Start begins, with the first round under PACED (R98, R125). -/
def started (k : Fin 16) (s : State) : State :=
  { startedQuietly s with
    round := if s.settings.source = .paced then .inRound s.clock.timebase k (conversionTime k s) else s.round
    pacer := if s.settings.source = .paced then
        .running (microseconds s.settings.period) (microseconds s.settings.period) else s.pacer }

theorem beginRun_started {s : State} {k : Fin 16} (hk : s.streams[k].enabled = true) (hl : k.val < s.scan.length)
    (hf : ∀ j < k, s.streams[j].enabled = false) : beginRun s = started k s := by
  have time : conversionTime k (startedQuietly s) = conversionTime k s := by unfold conversionTime slotOf; rfl
  have first : (convertedStreams (startedQuietly s)).head? = some k := by
    have same : convertedStreams (startedQuietly s) = convertedStreams s := by
      unfold convertedStreams startedQuietly; rfl
    rw [same]
    exact convertedStreams_head hk hl hf
  have quietly : beginRun s = startRounds (startedQuietly s) := beginRun_eq s
  rw [quietly, startRounds_eq first, time]
  unfold started startedQuietly
  rfl

theorem started_holdNotices (k : Fin 16) (s : State) : started k (holdNotices s) = holdNotices (started k s) := by
  unfold started startedQuietly
  rfl

/-- A Start is carried out whole, and its reply carries the Timebase value (R125, R202). -/
theorem runStart_eq {r : Request} {u : State} {k : Fin 16} (hp : r.payload = []) (hc : checkStart u = .ok ())
    (hk : u.streams[k].enabled = true) (hl : k.val < u.scan.length) (hf : ∀ j < k, u.streams[j].enabled = false) :
    runStart none r u = replied r (timeBytes u.clock.timebase) (started k u) := by
  have effect : beginRun (holdNotices u) = holdNotices (started k u) :=
    (beginRun_started (s := holdNotices u) hk hl hf).trans (started_holdNotices k u)
  have run : runStart none r u
      = answerAccepted none r (fun t => (beginRun t, timeBytes t.clock.timebase)) u := by
    rw [runStart, hp, show (readNothing []).bind (fun _ => checkStart u) = checkStart u from rfl, hc]
    rfl
  rw [run]
  refine answerAccepted_quiet r _ u (started k u) (timeBytes u.clock.timebase) ?_
  rw [effect]
  rfl

/-- The sink of a stream at a Start (R20). -/
theorem startSinks_get (streams : Vector StreamSettings 16) (j : Fin 16) :
    (streams.map startSink)[j] = if streams[j].enabled = true ∧ streams[j].history ≠ 0 then Sink.ring else .none := by
  have sink : (streams.map startSink)[j] = startSink streams[j] := by simp
  rw [sink, startSink, idleSink]
  cases streams[j].enabled <;> simp

/-- Settles O46: every check passes, and the effect is the run up to its first round. -/
theorem startsBeginARun : Obligations.StartsBeginARun := by
  intro r s u k hf ht hp hi hchosen hsound hhistory hpace hk hfirst
  have taken : exec .startAcquisition s = .next (conclude (runStart none r u)) := by
    show Host.Outcome.next (takeEvent (carryOut (ofType 0x20) (runStart none)) s) = _
    rw [carryOut_finds r (ofType 0x20) (runStart none) hf (by simp [ofType, ht])]
  have streams : ∀ j : Fin 16, (u.streams[j].enabled = true → j.val < u.scan.length) ∧ StreamLoaded j u := hsound.1
  have slotted : k.val < u.scan.length := (streams k).1 hk
  have answered : runStart none r u = replied r (timeBytes u.clock.timebase) (started k u) :=
    runStart_eq hp (checkStart_ok hi hchosen hsound hhistory hpace) hk slotted hfirst
  refine ⟨primedFilters u, u.streams.map startSink, ?_, fun j => ?_, fun j => ?_⟩
  · rw [taken, answered]
    unfold started startedQuietly
    rfl
  · exact ofFn_get _ j
  · exact startSinks_get u.streams j

end Sys2Proof.Machine
end

section
namespace Sys2Proof.Machine

/-! ## The output that a delivery makes (R113 to R117) -/

/-- The value of an output depends on what the taking of a trigger keeps. -/
theorem outputValue_of_settings {s t : State} (h : KeepsSettings s t) (k : Fin 16) (raw : RawSample) :
    outputValue k raw t = outputValue k raw s := by
  obtain ⟨filters, streams, coefficients, _⟩ := h
  simp only [outputValue, filters, streams, coefficients]

theorem filteredSample_of_settings {s t : State} (h : KeepsSettings s t) (k : Fin 16) (raw : RawSample) :
    filteredSample k raw t = filteredSample k raw s := by
  rw [filteredSample, outputValue_of_settings h, h.1]
  rfl

/-- The sample that a delivery stores is the one that its filter held when its triggers were taken (R75, R117). -/
theorem storeOutput_eq (k : Fin 16) (raw : RawSample) (s : State) :
    storeOutput k raw s = storeStage (filteredSample k raw s) (makeOutput k raw (takeStreamTriggers k s)) := by
  rw [storeOutput, filteredSample_of_settings (takeStreamTriggers_keepsSettings k s)]

/-- A delivery leaves the state of acquisition as it is. -/
theorem storeOutput_acquisition (k : Fin 16) (raw : RawSample) (s : State) :
    (storeOutput k raw s).acquisition = s.acquisition := by
  have taken : (takeStreamTriggers k s).acquisition = s.acquisition := by
    obtain ⟨_, _, _, acquisition, _⟩ := takeStreamTriggers_keepsSettings k s
    exact acquisition
  rw [storeOutput_eq, (storeStage_storeKept _ _).acquisition, acquisition_of_view (makeOutput_view k raw _), taken]

/-- A sink other than RING and CAPTURE stores nothing (R8). -/
theorem storeStage_none {x : FilteredSample} {k : Fin 16} {s : State} (hx : x.stream = k) (h : s.sinks[k] = .none) :
    storeStage x s = s := by
  subst hx
  simp only [storeStage, h]

theorem storeStage_ring {x : FilteredSample} {k : Fin 16} {s : State} (hx : x.stream = k) (h : s.sinks[k] = .ring) :
    storeStage x s = ringStore k x.value s := by
  subst hx
  simp only [storeStage, h]

theorem storeStage_capture {x : FilteredSample} {k : Fin 16} {n : Nat} {s : State} (hx : x.stream = k)
    (h : s.sinks[k] = .capture n) : storeStage x s = captureStore n k x.value s := by
  subst hx
  simp only [storeStage, h]

/-! ## What a drain's end leaves to the watches (R72, R81) -/

theorem raiseNotice_watches (n : Notice) (s : State) : (raiseNotice n s).watches = s.watches := by
  obtain ⟨_, _, _, raised, _⟩ := raiseNotice_shape n s
  rw [raised]

theorem quieted_watch (s : State) (w : Fin 8) : (quieted s).watches[w].state = .disarmed := by
  simp [quieted, disarmed]

/-- DISARMED watches take no action on a sample (R72). -/
theorem evaluate_disarmed (x : FilteredSample) (s : State) (h : ∀ w : Fin 8, s.watches[w].state = .disarmed) :
    evaluate x s = s := by
  have same : s.watches.map (judge x) = s.watches := vector_ext fun w => by
    have passive : judge x s.watches[w] = s.watches[w] := by rw [judge, h w]; rfl
    simpa using passive
  rw [evaluate, same]

theorem reachIdle_watch (reason : IdleReason) (s : State) (w : Fin 8) :
    (reachIdle reason s).watches[w].state = .disarmed := by
  rw [reachIdle_eq, raiseNotice_watches]
  exact quieted_watch s w

/-! ## The end of a drain (R43, R128) -/

theorem endDrain_continues {s : State} (h : s.acquisition = .draining → anyOpen s = true) : endDrain s = s := by
  unfold endDrain
  by_cases hd : s.acquisition = .draining
  · simp [hd, h hd]
  · simp [hd]

/-- The outputs that are due are delivered, and the steps of R130 follow. -/
theorem endDrain_drained {s : State} (hd : s.acquisition = .draining) (ho : anyOpen s = false) :
    endDrain s = reachIdle .drained (outstandingDelivered s) := by
  rw [← deliverOutstanding_eq]
  simp [endDrain, hd, ho, arriveIdle]

theorem takeOutput_due {k : Fin 16} {raw : RawSample} {s : State} (h : s.filters[k].due = some raw) :
    takeOutput k s = evaluate (filteredSample k raw s) (endDrain (storeOutput k raw s)) := by
  simp only [takeOutput, outputDue, h]

theorem deliver_due {k : Fin 16} {raw : RawSample} {s : State} (h : s.filters[k].due = some raw) :
    deliver k s = evaluate (filteredSample k raw s) (storeOutput k raw s) := by
  simp only [deliver, outputDue, h]

theorem exec_decimationOutput {k : Fin 16} {s u : State} (h : Finds s u) :
    exec (.decimationOutput k) s = .next (conclude (takeOutput k u)) :=
  congrArg Host.Outcome.next (takeEvent_finds (takeOutput k) h)

/-- Settles O25: the triggers keep what the output is made of, and a drain that ends leaves no watch to judge. -/
theorem outputsAreStoredAndJudged : Obligations.OutputsAreStoredAndJudged := by
  intro k s u hf
  rw [exec_decimationOutput hf]
  refine ⟨fun none => by rw [takeOutput_none k u none], fun raw y x u₁ v w due taken value sample made stored => ?_⟩
  have triggers : u₁ = takeStreamTriggers k u := taken
  have settings : KeepsSettings u u₁ := triggers ▸ takeStreamTriggers_keepsSettings k u
  have value : outputValue k raw u = y := by rw [value, outputValue]; rfl
  have sample : filteredSample k raw u = x := by rw [filteredSample, value, sample]; rfl
  have output : makeOutput k raw u₁ = if y < -32768 ∨ 32767 < y then countUp .filterSaturation v else v := by
    rw [makeOutput, outputValue_of_settings settings, value, made, ← settings.1, saturates]
    simp only [decide_eq_true_eq]
    rfl
  have stored : storeOutput k raw u = w := by
    have sinks : (makeOutput k raw u₁).sinks = u₁.sinks := congrArg CaptureView.sinks (makeOutput_view k raw u₁)
    have stream : x.stream = k := by rw [← sample]; rfl
    rw [storeOutput_eq, ← triggers, sample, stored]
    cases sink : u₁.sinks[k] with
    | none => rw [storeStage_none stream (sinks ▸ sink), output]
    | ring => rw [storeStage_ring stream (sinks ▸ sink), output]
    | capture n => rw [storeStage_capture stream (sinks ▸ sink), output]
  have acquisition : w.acquisition = u.acquisition := stored ▸ storeOutput_acquisition k raw u
  rw [deliver_due due, takeOutput_due due, sample, stored]
  refine ⟨rfl, fun drain => ?_, fun z draining closed delivered => ?_⟩
  · rw [endDrain_continues fun h => drain (acquisition ▸ h)]
    rfl
  · rw [endDrain_drained (acquisition.trans draining) closed, ← delivered,
      evaluate_disarmed x _ (reachIdle_watch .drained z), reachIdle_eq]

end Sys2Proof.Machine
end

section
namespace Sys2Proof.Machine

/-! ## A stream that stops collecting for a record in the table (R15, R40) -/

/-- Two changes of the member that a search finds are the same change once they agree on it. -/
theorem changeFirst_congr {α : Type} {picks : α → Bool} {f g : α → α} {l : List α} {x : α}
    (h : l.find? picks = some x) (e : f x = g x) : changeFirst picks f l = changeFirst picks g l := by
  obtain ⟨_, _, _, _, changed⟩ := changeFirst_split picks l x h
  rw [changed f, changed g, e]

theorem anyOpen_eq_true {s : State} : anyOpen s = true ↔ ∃ r ∈ s.records, r.state = .opened := by
  simp [anyOpen, isOpen]

theorem anyOpen_of_view {s t : State} (h : captureView t = captureView s) : anyOpen t = anyOpen s :=
  congrArg (fun v => v.records.any isOpen) h

/-- A record's parts once a stream has stopped. -/
def stoppedParts (k : Fin 16) (r : CaptureRecord) : List StreamPart :=
  changeFirst (fun p => p.stream == k) stoppedPart r.parts

/-- The state after a stream has stopped collecting for a record. -/
def streamStopped (k : Fin 16) (r : CaptureRecord) (s : State) : State :=
  { s with
    records := changeFirst (fun x => x.number == r.number) (fun x => { x with parts := stoppedParts k r }) s.records
    free := s.free ++ s.rings[k].run.pages.map blankPage
    rings := put s.rings k emptyRing
    sinks := put s.sinks k (idleSink s.streams[k]) }

/-- The state after the last stream of a record has stopped, before CAPTURE_DONE is raised (R42). -/
def recordClosed (k : Fin 16) (r : CaptureRecord) (s : State) : State :=
  { streamStopped k r s with
    records := changeFirst (fun x => x.number == r.number)
      (fun x => { x with parts := stoppedParts k r, state := .closed, closeTime := some s.clock.timebase }) s.records
    openRecord := put s.openRecord r.profile none }

section

variable {k : Fin 16} {r : CaptureRecord} {s : State}

theorem stopCollecting_found (hr : findRecord r.number s = some r) :
    stopCollecting r.number k s = streamStopped k r s := by
  have records := changeFirst_congr (g := fun x => { x with parts := stoppedParts k r })
    (f := fun x => { x with parts := changeFirst (fun p => p.stream == k) stoppedPart x.parts }) hr rfl
  have stopped := stopCollecting_eq r.number k s
  unfold stoppedPart at records
  rw [records] at stopped
  exact stopped

theorem findRecord_streamStopped (hr : findRecord r.number s = some r) :
    findRecord r.number (streamStopped k r s) = some { r with parts := stoppedParts k r } := by
  rw [← stopCollecting_found hr, findRecord_stopCollecting_self, hr]
  rfl

/-- A record with a part that still collects stays OPEN (R41). -/
theorem closeIfDone_collecting (hr : findRecord r.number s = some r)
    (hc : ∃ p ∈ stoppedParts k r, p.collecting = true) :
    closeIfDone r.number (streamStopped k r s) = streamStopped k r s := by
  have collecting : (stoppedParts k r).any (fun p => p.collecting) = true := List.any_eq_true.mpr hc
  simp [closeIfDone, findRecord_streamStopped hr, collecting]

theorem closeRecord_streamStopped :
    closeRecord { r with parts := stoppedParts k r } (streamStopped k r s)
      = raiseNotice (.captureDone r.number r.flags (imageLength { r with parts := stoppedParts k r }))
          (recordClosed k r s) := by
  have records := changeFirst_changeFirst (fun x : CaptureRecord => x.number == r.number)
    (fun x => { x with parts := stoppedParts k r })
    (fun x => { x with state := .closed, closeTime := some s.clock.timebase }) s.records fun _ => rfl
  rw [closeRecord_eq]
  dsimp only [streamStopped]
  rw [records]
  rfl

/-- An OPEN record whose last part has stopped closes (R41, R42). -/
theorem closeIfDone_done (hr : findRecord r.number s = some r) (ho : r.state = .opened)
    (hc : ∀ p ∈ stoppedParts k r, p.collecting = false) :
    closeIfDone r.number (streamStopped k r s)
      = raiseNotice (.captureDone r.number r.flags (imageLength { r with parts := stoppedParts k r }))
          (recordClosed k r s) := by
  have done : (stoppedParts k r).any (fun p => p.collecting) = false := by
    simpa using hc
  rw [← closeRecord_streamStopped]
  simp [closeIfDone, findRecord_streamStopped hr, isOpen, ho, done]

/-! ## POST_COUNT_REACHED (R39 to R43) -/

theorem takeDueStep_live (event : State → State) (hs : Live s) : takeDueStep event s = conclude (event s) := by
  have live : s.resetting.held = false := hs
  simp [takeDueStep, live]

theorem exec_postCountReached (hs : Live s) :
    exec (.postCountReached k) s = .next (conclude (reachPostCount k s)) :=
  congrArg Host.Outcome.next (takeDueStep_live (reachPostCount k) hs)

theorem reachPostCount_some (hd : postCountDue k s = some r.number) (hr : findRecord r.number s = some r) :
    reachPostCount k s = endDrain (closeIfDone r.number (streamStopped k r s)) := by
  simp only [reachPostCount, hd, stopCollecting_found hr]

/-- Every part of a record has stopped once the only stream that was collecting has (R41). -/
theorem stoppedParts_final (hd : PartsDistinct r) (hk : ∀ p ∈ r.parts, p.collecting = true → p.stream = k) :
    ∀ p ∈ stoppedParts k r, p.collecting = false := by
  intro p hp
  rcases changeFirst_stream hd hp with ⟨member, other⟩ | ⟨q, -, rfl⟩
  · by_contra collecting
    exact other (hk p member (by simpa using collecting))
  · rfl

/-- Once the only OPEN record has closed none is OPEN. -/
theorem recordClosed_none_open (hn : (recordNumbers s).Nodup) (hr : findRecord r.number s = some r)
    (ho : ∀ x ∈ s.records, x.state = .opened → x.number = r.number) :
    ∀ x ∈ (recordClosed k r s).records, x.state ≠ .opened := by
  obtain ⟨before, after, records, _, changed⟩ := changeFirst_split _ s.records r hr
  rw [recordNumbers, records] at hn
  obtain ⟨numbersBefore, numbersAfter⟩ := numbers_of_split hn
  intro x hx opened
  rw [recordClosed, changed, List.mem_append, List.mem_cons] at hx
  rcases hx with hx | rfl | hx
  · exact numbersBefore x hx (ho x (by simp [records, hx]) opened)
  · cases opened
  · exact numbersAfter x hx (ho x (by simp [records, hx]) opened)

/-- The record that has closed stands in the table, with its close time (R42). -/
theorem recordClosed_closed (hr : findRecord r.number s = some r) : ∃ y ∈ (recordClosed k r s).records,
    y.number = r.number ∧ y.state = .closed ∧ y.closeTime = some s.clock.timebase := by
  obtain ⟨before, after, _, _, changed⟩ := changeFirst_split _ s.records r hr
  refine ⟨{ r with parts := stoppedParts k r, state := .closed, closeTime := some s.clock.timebase }, ?_, rfl, rfl, rfl⟩
  rw [recordClosed, changed]
  simp

theorem recordClosed_numbers : recordNumbers (recordClosed k r s) = recordNumbers s :=
  changeFirst_map _ _ _ _ fun _ _ => rfl

/-! ## After the end of a drain (R130) -/

/-- A record of the table before is one of the table after. -/
theorem exists_mem_of_forall₂ {R : CaptureRecord → CaptureRecord → Prop} {before after : List CaptureRecord}
    (h : List.Forall₂ R before after) {r : CaptureRecord} (hr : r ∈ before) : ∃ u ∈ after, R r u :=
  mem_of_forall₂ (R := fun u r => R r u) h.flip hr

theorem quiet_of_view {t : State} (h : captureView t = captureView s) (hs : Quiet s) : Quiet t := by
  obtain ⟨closed, stores, rounds, pacer⟩ := hs
  have rings : t.rings = s.rings := congrArg CaptureView.rings h
  have sinks : t.sinks = s.sinks := congrArg CaptureView.sinks h
  exact ⟨(anyOpen_of_view h).trans closed, rings ▸ sinks ▸ stores, (congrArg CaptureView.round h).trans rounds,
    (congrArg CaptureView.pacer h).trans pacer⟩

theorem conclude_watches (s : State) : (conclude s).watches = s.watches := by
  obtain ⟨_, _, _, _, _, _, concluded⟩ := conclude_shape s
  rw [concluded]

/-- The state in which a drain has ended: IDLE and quiet, its watches DISARMED, its records those of the drain (R130). -/
theorem quieted_state {t z : State} {n : Notice} (ht : t = conclude (raiseNotice n (quieted z)))
    (ho : anyOpen z = false) :
    t.acquisition = .idle ∧ Quiet t ∧ t.records = z.records ∧ ∀ w : Fin 8, t.watches[w].state = .disarmed := by
  have view : captureView t = captureView (quieted z) := by rw [ht, conclude_view, raiseNotice_view]
  have watches : t.watches = (quieted z).watches := by rw [ht, conclude_watches, raiseNotice_watches]
  refine ⟨acquisition_of_view view, quiet_of_view view (quieted_quiet ho), congrArg CaptureView.records view, fun w => ?_⟩
  rw [watches]
  exact quieted_watch z w

theorem outstandingDelivered_storeKept (hd : s.acquisition = .draining) : StoreKept s (outstandingDelivered s) := by
  rw [← deliverOutstanding_eq]
  exact deliverOutstanding_storeKept s (by rw [hd]; nofun)

/-- The CAPTURE_DONE with which the record closes (R42). -/
def closedWithNotice (k : Fin 16) (r : CaptureRecord) (s : State) : State :=
  raiseNotice (.captureDone r.number r.flags (imageLength { r with parts := stoppedParts k r })) (recordClosed k r s)

theorem closedWithNotice_view : captureView (closedWithNotice k r s) = captureView (recordClosed k r s) :=
  raiseNotice_view _ _

/-- A stream of a record that still collects stops, and nothing else happens (R40). -/
theorem reachPostCount_collecting (hd : postCountDue k s = some r.number) (hr : findRecord r.number s = some r)
    (hc : ∃ p ∈ stoppedParts k r, p.collecting = true)
    (ho : s.acquisition = .draining → ∃ x ∈ (streamStopped k r s).records, x.state = .opened) :
    reachPostCount k s = streamStopped k r s := by
  rw [reachPostCount_some hd hr, closeIfDone_collecting hr hc, endDrain_continues fun h => anyOpen_eq_true.mpr (ho h)]

/-- The last stream of a record closes it (R42). -/
theorem reachPostCount_closes (hd : postCountDue k s = some r.number) (hr : findRecord r.number s = some r)
    (hopen : r.state = .opened) (hc : ∀ p ∈ stoppedParts k r, p.collecting = false)
    (ho : s.acquisition = .draining → ∃ x ∈ (recordClosed k r s).records, x.state = .opened) :
    reachPostCount k s = closedWithNotice k r s := by
  have drain : (closedWithNotice k r s).acquisition = .draining → anyOpen (closedWithNotice k r s) = true := by
    rw [acquisition_of_view closedWithNotice_view, anyOpen_of_view closedWithNotice_view]
    exact fun h => anyOpen_eq_true.mpr (ho h)
  rw [reachPostCount_some hd hr, closeIfDone_done hr hopen hc]
  exact endDrain_continues drain

/-- The last stream of the last OPEN record ends the drain (R43). -/
theorem reachPostCount_drained (hd : postCountDue k s = some r.number) (hr : findRecord r.number s = some r)
    (hopen : r.state = .opened) (hc : ∀ p ∈ stoppedParts k r, p.collecting = false)
    (ha : s.acquisition = .draining) (ho : ∀ x ∈ (recordClosed k r s).records, x.state ≠ .opened) :
    reachPostCount k s = reachIdle .drained (outstandingDelivered (closedWithNotice k r s)) := by
  have draining : (closedWithNotice k r s).acquisition = .draining :=
    (acquisition_of_view closedWithNotice_view).trans ha
  have closed : anyOpen (closedWithNotice k r s) = false :=
    (anyOpen_of_view closedWithNotice_view).trans (anyOpen_eq_false.mpr ho)
  rw [reachPostCount_some hd hr, closeIfDone_done hr hopen hc]
  exact endDrain_drained draining closed

/-- A drain whose one OPEN record has one stream left ends with that stream's post count (R43, R128, R130). -/
theorem reachPostCount_ends (hn : (recordNumbers s).Nodup) (hp : PartsDistinct r) (ha : s.acquisition = .draining)
    (hd : postCountDue k s = some r.number) (hr : findRecord r.number s = some r) (hopen : r.state = .opened)
    (ho : ∀ x ∈ s.records, x.state = .opened → x.number = r.number)
    (hk : ∀ p ∈ r.parts, p.collecting = true → p.stream = k) {t : State} (ht : t = conclude (reachPostCount k s)) :
    t.acquisition = .idle ∧ Quiet t ∧ recordNumbers t = recordNumbers s ∧ (∀ w : Fin 8, t.watches[w].state = .disarmed)
      ∧ ∃ y ∈ t.records, y.number = r.number ∧ y.state = .closed ∧ y.closeTime = some s.clock.timebase := by
  have final := recordClosed_none_open (k := k) hn hr ho
  have delivered : StoreKept (closedWithNotice k r s) (outstandingDelivered (closedWithNotice k r s)) :=
    outstandingDelivered_storeKept ((acquisition_of_view closedWithNotice_view).trans ha)
  have closed : anyOpen (outstandingDelivered (closedWithNotice k r s)) = false :=
    anyOpen_of_kept delivered.table ((anyOpen_of_view closedWithNotice_view).trans (anyOpen_eq_false.mpr final))
  have before : (closedWithNotice k r s).records = (recordClosed k r s).records :=
    congrArg CaptureView.records closedWithNotice_view
  rw [reachPostCount_drained hd hr hopen (stoppedParts_final hp hk) ha final, reachIdle_eq] at ht
  obtain ⟨idle, quiet, records, watches⟩ := quieted_state ht closed
  have stored : List.Forall₂ RecordStored (recordClosed k r s).records t.records := by
    rw [records, ← before]
    exact delivered.records
  refine ⟨idle, quiet, ?_, watches, ?_⟩
  · exact (recordNumbers_of_kept (stored.imp fun _ _ a => a.1)).trans recordClosed_numbers
  · obtain ⟨y, member, number, state, closeTime⟩ := recordClosed_closed (k := k) hr
    obtain ⟨u, member', ⟨number', -, -⟩, same⟩ := exists_mem_of_forall₂ stored member
    obtain ⟨state', closeTime'⟩ := same (by rw [state]; nofun)
    exact ⟨u, member', number'.trans number, state'.trans state, closeTime'.trans closeTime⟩

end

/-- Settles O29: the three ways in which a reached post count ends (R41, R43). -/
theorem postCountsStopCloseAndEndTheDrain : Obligations.PostCountsStopCloseAndEndTheDrain := by
  refine ⟨fun k n s => postCountDue_eq_some, fun k s hs => ?_, ?_⟩
  · rw [exec_postCountReached hs]
    refine ⟨fun none => by rw [reachPostCount_none k s none], fun n r parts v c hd hr hparts hv hc => ?_⟩
    obtain rfl : r.number = n := findRecord_number hr
    have hparts : parts = stoppedParts k r := hparts
    subst hparts
    have hv : v = streamStopped k r s := hv
    have hc : c = recordClosed k r s := by rw [hc, hv]; rfl
    subst hv hc
    refine ⟨fun collecting drain => ?_, fun hopen final drain => ?_, fun z hopen final ha drained hz => ?_⟩
    · rw [reachPostCount_collecting hd hr collecting drain]
    · rw [reachPostCount_closes hd hr hopen final drain]
      rfl
    · have hz : z = outstandingDelivered (closedWithNotice k r s) := hz
      rw [reachPostCount_drained hd hr hopen final ha drained, reachIdle_eq, ← hz]
  · intro k n r s hs sound distinct ha hd hr hopen ho hk
    obtain rfl : r.number = n := findRecord_number hr
    exact ⟨_, exec_postCountReached hs, reachPostCount_ends sound.2.1 distinct ha hd hr hopen ho hk rfl⟩

end Sys2Proof.Machine
end

section
namespace Sys2Proof.Machine

/-! ## The handovers of an opening (R16, R32) -/

theorem includedStreams_eq (profile : Profile) (s : State) : includedStreams profile.mask s = openingStreams profile s := by
  simp only [includedStreams, maskStreams, allStreams_eq, List.filter_filter, openingStreams, inMask, Bool.and_comm]

theorem leavesOut_eq (mask : StreamMask) (s : State) :
    leavesOut mask s = (List.finRange 16).any fun k => mask.getLsbD k.val && (capturing k s).isSome := by
  simp only [leavesOut, maskStreams, allStreams_eq, List.any_filter, inMask]

/-- The handover of one stream leaves what the others hand over as it is. -/
theorem partOf_handOver {number : Nat} {profile : Profile} {j k : Fin 16} {s : State} (h : j ≠ k) :
    partOf profile j (handOver number profile k s) = partOf profile j s := by
  have ring : (put s.rings k emptyRing)[j] = s.rings[j] := put_other _ _ _ _ h
  rw [handOver_eq, partOf, ring]
  rfl

theorem returnedPages_handOver {number : Nat} {profile : Profile} {j k : Fin 16} {s : State} (h : j ≠ k) :
    returnedPages profile j (handOver number profile k s) = returnedPages profile j s := by
  have ring : (put s.rings k emptyRing)[j] = s.rings[j] := put_other _ _ _ _ h
  rw [handOver_eq, returnedPages, ring]
  rfl

/-- A table in which one entry, and then those of a list, are replaced. -/
theorem ofFn_put {α : Type} {n : Nat} (v : Vector α n) (j : Fin n) (l : List (Fin n)) (x : α) :
    (Vector.ofFn fun k => if k ∈ l then x else (put v j x)[k])
      = Vector.ofFn fun k => if k ∈ j :: l then x else v[k] := by
  refine vector_ext fun k => ?_
  rw [ofFn_get, ofFn_get, put_get]
  by_cases hk : k ∈ l <;> by_cases e : k = j <;> simp [hk, e]

/-- The state after the handovers of some streams to a record. -/
def handedOver (number : Nat) (profile : Profile) (l : List (Fin 16)) (s : State) : State :=
  { s with
    free := s.free ++ l.flatMap fun k => (returnedPages profile k s).map blankPage
    rings := Vector.ofFn fun k => if k ∈ l then emptyRing else s.rings[k]
    sinks := Vector.ofFn fun k => if k ∈ l then .capture number else s.sinks[k] }

theorem handedOver_cons {number : Nat} {profile : Profile} {j : Fin 16} {rest : List (Fin 16)} (hj : j ∉ rest) (s : State) :
    handedOver number profile rest (handOver number profile j s) = handedOver number profile (j :: rest) s := by
  have returned : (rest.flatMap fun k => (returnedPages profile k (handOver number profile j s)).map blankPage)
      = rest.flatMap fun k => (returnedPages profile k s).map blankPage :=
    List.flatMap_congr fun k hk => by
      have other : k ≠ j := fun e => hj (e ▸ hk)
      rw [returnedPages_handOver other]
  have rings := ofFn_put s.rings j rest emptyRing
  have sinks := ofFn_put s.sinks j rest (.capture number)
  rw [handedOver, returned, handOver_eq]
  dsimp only
  rw [rings, sinks, List.append_assoc]
  rfl

theorem handOverAll_eq (number : Nat) (profile : Profile) (l : List (Fin 16)) (hl : l.Nodup) (s : State) :
    handOverAll number profile l s = (l.map fun k => partOf profile k s, handedOver number profile l s) := by
  induction l generalizing s with
  | nil => simp [handOverAll, handedOver]
  | cons j rest ih =>
    obtain ⟨hj, hrest⟩ := List.nodup_cons.mp hl
    have parts : (rest.map fun k => partOf profile k (handOver number profile j s)) = rest.map fun k => partOf profile k s :=
      List.map_congr_left fun k hk => partOf_handOver fun e => hj (e ▸ hk)
    rw [handOverAll, ih hrest, parts, handedOver_cons hj]
    rfl

theorem partOf_eq (profile : Profile) (k : Fin 16) (s : State) : partOf profile k s = openedPart profile k s := rfl

/-! ## The record that an opening makes (R32 to R37) -/

theorem openRecordFor_eq (t : Trigger) (s : State) :
    openRecordFor t s = (afterOpening t s, .opened (freshNumber s)) := by
  have handed := handOverAll_eq (freshNumber s) s.profiles[t.profile] (openingStreams s.profiles[t.profile] s)
    ((List.nodup_finRange 16).filter _) s
  simp only [openRecordFor, includedStreams_eq, handed, leavesOut_eq, List.any_map, partOf_eq]
  rfl

/-! ## TRIGGER (R24 to R34) -/

theorem exec_trigger {i : Nat} {t : Trigger} {s u : State} (h : Finds s u) (ht : u.triggers[i]? = some t) :
    exec (.trigger i) s = .next (conclude (takeTrigger t (withoutTrigger i u))) := by
  have taken : takeEvent (takeTriggerAt i) s = conclude (takeTriggerAt i u) := takeEvent_finds _ h
  have found : takeTriggerAt i u = takeTrigger t (withoutTrigger i u) := by simp only [takeTriggerAt, ht, withoutTrigger]
  rw [found] at taken
  exact congrArg Host.Outcome.next taken

/-- A trigger of this run, for a profile without an OPEN record, with a stream to include and room in the table. -/
theorem decideTrigger_opens {t : Trigger} {s : State} (ho : s.openRecord[t.profile] = none)
    (hi : openingStreams s.profiles[t.profile] s ≠ []) (hl : s.records.length < 32) :
    decideTrigger t s = (afterOpening t s, .opened (freshNumber s)) := by
  have room : openWithRoom t s = openRecordFor t s := if_pos hl
  simp only [decideTrigger, ho, includedStreams_eq, List.isEmpty_iff, if_neg hi, room, openRecordFor_eq]

theorem takeTrigger_opens {t : Trigger} {s : State} (hr : s.acquisition = .running) (he : t.earlierRun = false)
    (ho : s.openRecord[t.profile] = none) (hi : openingStreams s.profiles[t.profile] s ≠ [])
    (hl : s.records.length < 32) :
    takeTrigger t s
      = { afterOpening t s with alarmRequests := s.alarmRequests ++ alarmOf t (some (freshNumber s)) } := by
  simp only [takeTrigger, hr, he, decideTrigger_opens ho hi hl, requestAlarm_eq]
  rfl

/-- The entry of a table in which the entries of a list are replaced. -/
theorem ofFn_mem_get {α : Type} {n : Nat} (v : Vector α n) (l : List (Fin n)) (x : α) (k : Fin n) :
    (k ∈ l → (Vector.ofFn fun j => if j ∈ l then x else v[j])[k] = x)
      ∧ (k ∉ l → (Vector.ofFn fun j => if j ∈ l then x else v[j])[k] = v[k]) := by
  rw [ofFn_get]
  exact ⟨fun h => if_pos h, fun h => if_neg h⟩

/-- Settles O35: the handovers go stream by stream, and none of them touches what another hands over. -/
theorem triggersOpenRecords : Obligations.TriggersOpenRecords := by
  intro i t profile included n s u v hf hv ht hp hr he ho hi hne hl hn
  have hi : included = openingStreams profile u := hi
  have taken : exec (.trigger i) s = .next (conclude
      { afterOpening t v with alarmRequests := u.alarmRequests ++ alarmOf t (some n) }) := by
    have opens : openingStreams (withoutTrigger i u).profiles[t.profile] (withoutTrigger i u) ≠ [] := by
      rw [hi, hp] at hne; exact hne
    rw [exec_trigger hf ht, takeTrigger_opens (s := withoutTrigger i u) hr he ho opens hl, hv, hn]
    rfl
  refine ⟨included.map (fun k => openedPart profile k u), u.free ++ openingReturns profile u,
    Vector.ofFn fun k => if k ∈ included then emptyRing else u.rings[k],
    Vector.ofFn fun k => if k ∈ included then .capture n else u.sinks[k],
    ?_, taken, rfl, rfl, ?_, fun p member => ?_, fun sound => ?_, fun k => ⟨fun h => ?_, fun h => ?_⟩⟩
  · rw [taken, hv, hi, hp, hn, List.any_map]
    rfl
  · rw [List.map_map]
    exact List.map_id _
  · obtain ⟨k, -, rfl⟩ := List.mem_map.mp member
    exact ⟨rfl, rfl, rfl, rfl, rfl, rfl, rfl, rfl, rfl, rfl, rfl, rfl, rfl⟩
  · obtain ⟨j, within, number, -, tried⟩ := freshNumber_spec u sound
    obtain ⟨low, high, fresh⟩ := freshNumber_sound u sound
    rw [hn]
    exact ⟨low, high, fresh, j, within, number, tried⟩
  · exact ⟨(ofFn_mem_get u.sinks included (.capture n) k).1 h, (ofFn_mem_get u.rings included emptyRing k).1 h⟩
  · exact ⟨(ofFn_mem_get u.sinks included (.capture n) k).2 h, (ofFn_mem_get u.rings included emptyRing k).2 h⟩

end Sys2Proof.Machine
end

section
/-! PROOFS. What a step can do, said once: the elementary changes that the operations of every block are made of. An
invariant that each of them keeps is kept by every step. -/

namespace Sys2Proof.Machine

/-! ## Elementary changes -/

/-- The pieces of state that the record table, the watches, the capacities and the nesting of frames rest on. -/
structure TrackedView where
  clock : Clock
  records : List CaptureRecord
  nextRecord : Nat
  readout : Readout
  watches : Vector Watch 8
  external : ExternalTrigger
  acquisition : AcquisitionState
  alarms : List AlarmEntry
  dropCount : Nat
  counters : Vector Counter 16
  inbound : List Request
  transmit : TransmitUnit
  dispatcher : Dispatcher

/-- What a state holds of them. -/
def trackedView (s : State) : TrackedView :=
  { clock := s.clock, records := s.records, nextRecord := s.nextRecord, readout := s.readout, watches := s.watches,
    external := s.external, acquisition := s.acquisition, alarms := s.alarms, dropCount := s.dropCount,
    counters := s.counters, inbound := s.inbound, transmit := s.transmit, dispatcher := s.dispatcher }

/-- A Transmit Unit whose queues and frames in transmission, by class, are among those of another: characters go out and
frames leave, and none joins. -/
structure Depleted (before after : TransmitUnit) : Prop where
  urgent : after.urgent.Sublist before.urgent
  normal : after.normal.Sublist before.normal
  sending : (stackRanks after.sending.toList).Sublist (stackRanks before.sending.toList)
  suspended : (stackRanks after.suspended).Sublist (stackRanks before.suspended)

/-- The changes that operations are made of, a request in execution staying in execution. -/
inductive Change : State → State → Prop
  | untracked {s t : State} (same : trackedView t = trackedView s) : Change s t
  | timePasses (units : Nat) (s : State) : Change s (elapse units s)
  | timeIsSet (time : Time) (s : State) : Change s (setTimebase time s)
  | counters (cs : Vector Counter 16) (s : State)
      (bounded : ∀ i : Fin 16, s.counters[i].value ≤ counterMaximum → cs[i].value ≤ counterMaximum) :
      Change s { s with counters := cs }
  | noticeQueued (n : Notice) (s : State) (fits : noticeFits s = true) : Change s (queueNormal (noticeFrame n) s)
  | noticesHeld (held : Option (List Notice)) (s : State) :
      Change s { s with dispatcher := { s.dispatcher with held := held } }
  | recordChanged (n : Nat) (f : CaptureRecord → CaptureRecord) (s : State) (number : ∀ r, (f r).number = r.number)
      (state : ∀ r, (f r).state = r.state)
      (retriggers : ∀ r, r.retriggers.length ≤ retriggerTotal → (f r).retriggers.length ≤ retriggerTotal) :
      Change s (changeRecord n f s)
  | recordOpened (t : Trigger) (s : State) (room : s.records.length < recordTotal) : Change s (openRecordFor t s).1
  | recordReplaced (t : Trigger) (r : CaptureRecord) (s : State) (member : r ∈ s.records) (closed : r.state = .closed) :
      Change s (openRecordFor t (removeRecord r.number s)).1
  | recordClosed (r : CaptureRecord) (s : State) (found : findRecord r.number s = some r) (opened : r.state = .opened) :
      Change s (changeRecord r.number (fun x => { x with state := .closed, closeTime := some s.clock.timebase }) s)
  | recordRemoved (n : Nat) (s : State)
      (unread : n ∈ recordNumbers s → s.readout.state = .idle ∨ ∃ r ∈ s.records, r.number = n ∧ r.state = .closed) :
      Change s (removeRecord n s)
  | readoutBegun (tag : Byte) (r : CaptureRecord) (offset : Nat) (s : State) (idle : s.readout.state = .idle)
      (found : findRecord r.number s = some r) : Change s (beginReadout tag r offset s)
  | readoutEnded (s : State) : Change s (releaseReadout s)
  | sampleJudged (x : FilteredSample) (s : State) : Change s (evaluate x s)
  | watchFired (w : Fin 8) (s : State) : Change s (setWatch w (afterFiring s.watches[w]) s)
  | holdoffEnded (w : Fin 8) (s : State) : Change s (endHoldoff w s)
  | watchEdited (w : Fin 8) (d : WatchDefinition) (s : State) :
      Change s (setWatch w (freshWatch d (editedState d.enabled s)) s)
  | externalFired (s : State) : Change s (fireExternal s)
  | externalRearmed (s : State) (holdoff : s.external.state ≠ .disarmed) :
      Change s { s with external := { s.external with state := .armed } }
  | externalEdited (d : ExternalDefinition) (s : State) : Change s { s with external := editedExternal d s }
  | armed (s : State) : Change s { armAll s with acquisition := .running }
  | disarmed (a : AcquisitionState) (s : State) : Change s { disarmAll s with acquisition := a }
  | alarmListed (r : AlarmRequest) (s : State) (room : s.alarms.length < alarmTotal) : Change s (takeAlarmRequest r s)
  | alarmsDropped (n : Nat) (s : State) : Change s (addDrops n s)
  | alarmMoved (s : State) : Change s (moveOldestPending s)
  | alarmSent (id : Byte) (s : State) : Change s (reportSent id s)
  | alarmResent (id : Byte) (e : AlarmEntry) (s : State) (found : findAlarm id s = some e)
      (few : e.sendCount < sendTotal) : Change s (changeAlarm id (fun x => { x with state := .pending }) s)
  | alarmsRequeued (s : State) : Change s { s with alarms := s.alarms.map requeueAlarm }
  | alarmRemoved (id : Byte) (s : State) : Change s (removeAlarm id s)
  | requestQueued (r : Request) (s : State) (room : s.inbound.length < inboundTotal) :
      Change s { s with inbound := s.inbound ++ [r] }
  | requestTaken (s : State) : Change s (takeRequest s)
  | requestsDiscarded (s : State) :
      Change s { s with inbound := [], dispatcher := { s.dispatcher with behind := 0 } }
  | frameChosen (s : State) : Change s (chooseFrame s)
  | frameSuspended (t : Transmission) (s : State) (sending : s.transmit.sending = some t)
      (higher : higherPending (frameClass t.frame) s = true) : Change s (suspendFrame t s)
  | transmitted (tr : TransmitUnit) (s : State) (depleted : Depleted s.transmit tr) : Change s { s with transmit := tr }

/-- Some of them, one after another. -/
abbrev Changes (s t : State) : Prop := Relation.ReflTransGen Change s t

/-- What a step is made of: changes, the reply that ends a request's execution, and the end or the hold of a reset. -/
inductive Turn : State → State → Prop
  | change {s t : State} (h : Change s t) : Turn s t
  | replied (f : Frame) (d : Dispatcher) (r : Request) (s : State) (executing : s.dispatcher.state = .executing r)
      (class_normal : frameClass f = .normal) (done : ∀ q, d.state ≠ .executing q) (behind : d.behind = s.dispatcher.behind) :
      Turn s { s with transmit := { s.transmit with normal := s.transmit.normal ++ [f] }, dispatcher := d }
  | reset (rate : Fin 4) {s t : State}
      (fresh : trackedView t = { trackedView State.reset with transmit := resetTransmit rate }) : Turn s t

/-- Some of them, one after another. -/
abbrev Turns (s t : State) : Prop := Relation.ReflTransGen Turn s t

theorem turns_of_changes {s t : State} (h : Changes s t) : Turns s t := Relation.ReflTransGen.mono (fun _ _ => .change) _ _ h

theorem changes_refl (s : State) : Changes s s := .refl

theorem changes_of_tracked {s t : State} (h : trackedView t = trackedView s) : Changes s t := .single (.untracked h)

theorem changes_after {s u t : State} (h : Changes u t) (same : trackedView u = trackedView s) : Changes s t :=
  (changes_of_tracked same).trans h

/-- Operations that are changes, one after another. -/
theorem changes_foldl {α : Type} (f : State → α → State) (h : ∀ a s, Changes s (f s a)) (l : List α) (s : State) :
    Changes s (l.foldl f s) := by
  induction l generalizing s with
  | nil => exact changes_refl s
  | cons a rest ih => exact (h a s).trans (ih _)

/-- A request in execution stays in execution: only an idle Dispatcher takes one (R183, R184). -/
theorem executing_of_change {s t : State} {r : Request} (h : Change s t) (hs : s.dispatcher.state = .executing r) :
    t.dispatcher.state = .executing r := by
  cases h with
  | untracked same => rw [show t.dispatcher = s.dispatcher from congrArg TrackedView.dispatcher same, hs]
  | holdoffEnded w => unfold endHoldoff; split <;> exact hs
  | externalFired =>
    obtain ⟨_, _, e⟩ := sendFiring_shape s.external.definition.profile s.external.definition.alarm .external
      s.clock.timebase none s
    rw [fireExternal, e]
    exact hs
  | recordOpened t =>
    obtain ⟨_, _, _, _, e, -⟩ := openRecordFor_shape t s
    rw [e]; exact hs
  | recordReplaced t r =>
    obtain ⟨_, _, _, _, e, -⟩ := openRecordFor_shape t (removeRecord r.number s)
    rw [e]; exact hs
  | alarmListed r _ room => rw [takeAlarmRequest, if_pos room]; exact hs
  | alarmMoved =>
    obtain e | ⟨_, -, -, e⟩ := moveOldestPending_cases s <;> rw [e] <;> exact hs
  | requestTaken => unfold takeRequest; simp only [hs]
  | frameChosen =>
    obtain ⟨_, _, e⟩ := chooseFrame_shape s
    rw [e]; exact hs
  | _ => exact hs

theorem executing_of_changes {s t : State} {r : Request} (h : Changes s t) (hs : s.dispatcher.state = .executing r) :
    t.dispatcher.state = .executing r := by
  induction h with
  | refl => exact hs
  | tail _ change ih => exact executing_of_change change ih

end Sys2Proof.Machine
end

section
namespace Sys2Proof.Machine

/-! ## Counters and notices (R145 to R150) -/

theorem setCounter_changes (id : CounterId) (c : Counter) (s : State)
    (h : (counterOf s id).value ≤ counterMaximum → c.value ≤ counterMaximum) : Changes s (setCounter id c s) := by
  refine .single (.counters _ s fun i hi => ?_)
  rw [put_get]
  split
  · next e => subst e; exact h hi
  · exact hi

theorem setMark_changes (id : CounterId) (m : Mark) (s : State) : Changes s (setMark id m s) :=
  setCounter_changes id _ s fun h => h

theorem saturatingUp_bounded {n : Nat} (h : n ≤ counterMaximum) : saturatingUp n ≤ counterMaximum := by
  unfold saturatingUp counterMaximum at *
  split <;> omega

theorem countOne_changes (id : CounterId) (s : State) : Changes s (countOne id s) :=
  setCounter_changes id _ s saturatingUp_bounded

theorem markNotice_changes (n : Notice) (m : Mark) (s : State) : Changes s (markNotice n m s) := by
  cases n with
  | fault id time => exact setMark_changes id m s
  | _ => exact changes_refl s

theorem countDroppedNotice_changes (s : State) : Changes s (countDroppedNotice s) := by
  unfold countDroppedNotice
  split
  · exact (countOne_changes _ s).trans (setMark_changes _ _ _)
  · exact countOne_changes _ s

theorem offerNotice_changes (n : Notice) (s : State) : Changes s (offerNotice n s) := by
  unfold offerNotice
  split
  · next fits =>
    obtain ⟨cs, marked⟩ := markNotice_shape n .reported s
    have still : noticeFits (markNotice n .reported s) = true := by rw [marked]; exact fits
    exact (markNotice_changes n _ s).tail (.noticeQueued n _ still)
  · exact (markNotice_changes n _ s).trans (countDroppedNotice_changes _)

theorem raiseNotice_changes (n : Notice) (s : State) : Changes s (raiseNotice n s) := by
  unfold raiseNotice
  split
  · exact .single (.noticesHeld _ s)
  · exact offerNotice_changes n s

theorem countUp_changes (id : CounterId) (s : State) : Changes s (countUp id s) := by
  unfold countUp
  split
  · split
    · exact (countOne_changes _ s).trans (setMark_changes _ _ _)
    · exact (countOne_changes _ s).trans (setMark_changes _ _ _)
    · exact (countOne_changes _ s).trans (raiseNotice_changes _ _)
  · exact countOne_changes id s

theorem countTimes_changes (id : CounterId) (n : Nat) (s : State) : Changes s (countTimes id n s) := by
  induction n generalizing s with
  | zero => exact changes_refl s
  | succ n ih => exact (countUp_changes id s).trans (ih _)

theorem offered_changes (notices : List Notice) (s : State) : Changes s (offered notices s) :=
  changes_foldl _ (fun n t => offerNotice_changes n t) notices s

theorem holdNotices_changes (s : State) : Changes s (holdNotices s) := .single (.noticesHeld _ s)

theorem stopHolding_changes (s : State) : Changes s (stopHolding s) := .single (.noticesHeld _ s)

theorem offerHeld_changes (s : State) : Changes s (offerHeld s) :=
  (stopHolding_changes s).trans (offered_changes _ _)

theorem discardHeld_changes (s : State) : Changes s (discardHeld s) :=
  (stopHolding_changes s).trans (changes_foldl _ (fun n t => markNotice_changes n .reported t) _ _)

/-! ## What counters and notices do not look at -/

/-- An operation on pieces of state that counters and notices neither read nor change. -/
structure Aside (g : State → State) : Prop where
  clock : ∀ s, (g s).clock = s.clock
  counters : ∀ s, (g s).counters = s.counters
  transmit : ∀ s, (g s).transmit = s.transmit
  held : ∀ s, (g s).dispatcher.held = s.dispatcher.held
  counted : ∀ id c s, setCounter id c (g s) = g (setCounter id c s)
  queued : ∀ f s, queueNormal f (g s) = g (queueNormal f s)
  holding : ∀ held s, { g s with dispatcher := { (g s).dispatcher with held := held } }
    = g { s with dispatcher := { s.dispatcher with held := held } }

theorem removeRecord_aside (n : Nat) : Aside (removeRecord n) :=
  ⟨fun _ => rfl, fun _ => rfl, fun _ => rfl, fun _ => rfl, fun _ _ _ => rfl, fun _ _ => rfl, fun _ _ => rfl⟩

theorem freeDispatcher_aside : Aside freeDispatcher :=
  ⟨fun _ => rfl, fun _ => rfl, fun _ => rfl, fun _ => rfl, fun _ _ _ => rfl, fun _ _ => rfl, fun _ _ => rfl⟩

section

variable {g : State → State} (hg : Aside g)

include hg

theorem counterOf_aside (id : CounterId) (s : State) : counterOf (g s) id = counterOf s id := by
  simp only [counterOf, hg.counters]

theorem countOne_aside (id : CounterId) (s : State) : countOne id (g s) = g (countOne id s) := by
  simp only [countOne, counterOf_aside hg, hg.counted]

theorem setMark_aside (id : CounterId) (m : Mark) (s : State) : setMark id m (g s) = g (setMark id m s) := by
  simp only [setMark, counterOf_aside hg, hg.counted]

theorem markNotice_aside (n : Notice) (m : Mark) (s : State) : markNotice n m (g s) = g (markNotice n m s) := by
  cases n with
  | fault id time => exact setMark_aside hg id m s
  | _ => rfl

theorem offerNotice_aside (n : Notice) (s : State) : offerNotice n (g s) = g (offerNotice n s) := by
  have fits : noticeFits (g s) = noticeFits s := by simp only [noticeFits, hg.transmit]
  have dropped : ∀ t, countDroppedNotice (g t) = g (countDroppedNotice t) := by
    intro t
    simp only [countDroppedNotice, counterOf_aside hg, countOne_aside hg, setMark_aside hg]
    split <;> rfl
  simp only [offerNotice, fits, markNotice_aside hg, dropped, hg.queued]
  split <;> rfl

theorem offered_aside (notices : List Notice) (s : State) : offered notices (g s) = g (offered notices s) := by
  induction notices generalizing s with
  | nil => rfl
  | cons n rest ih => simpa only [offered, List.foldl_cons, offerNotice_aside hg] using ih (offerNotice n s)

theorem raiseNotice_aside (n : Notice) (s : State) : raiseNotice n (g s) = g (raiseNotice n s) := by
  cases held : s.dispatcher.held with
  | none => rw [raiseNotice_free n _ held, raiseNotice_free n _ ((hg.held s).trans held), offerNotice_aside hg]
  | some notices =>
    rw [raiseNotice_held n _ notices held, raiseNotice_held n _ notices ((hg.held s).trans held), hg.holding]

theorem countUp_aside (id : CounterId) (s : State) : countUp id (g s) = g (countUp id s) := by
  simp only [countUp, counterOf_aside hg, countOne_aside hg, setMark_aside hg, raiseNotice_aside hg, hg.clock]
  split
  · split <;> rfl
  · rfl

theorem countTimes_aside (id : CounterId) (n : Nat) (s : State) : countTimes id n (g s) = g (countTimes id n s) := by
  induction n generalizing s with
  | zero => rfl
  | succ n ih => rw [countTimes, countUp_aside hg, ih, countTimes]

end

/-! ## The Transmit Unit and what follows an event (R137, R173, R183) -/

theorem sendCharacter_changes (c : Byte) (s : State) : Changes s (sendCharacter c s) :=
  .single (.transmitted _ s ⟨.refl _, .refl _, .refl _, .refl _⟩)

theorem movePending_changes (s : State) : Changes s (movePending s) :=
  (((Relation.ReflTransGen.single (.alarmMoved s)).tail (.alarmMoved _)).tail (.alarmMoved _)).tail (.alarmMoved _)

theorem decideIdle_changes (s : State) : Changes s (decideIdle s) := by
  unfold decideIdle
  split
  · exact .single (.frameChosen s)
  · exact changes_refl s

theorem conclude_changes (s : State) : Changes s (conclude s) :=
  ((movePending_changes s).trans ((decideIdle_changes _).trans (movePending_changes _))).tail (.requestTaken _)

/-! ## Storing, stopping and closing (chapters 1 and 2) -/

theorem ringStore_changes (k : Fin 16) (x : Sample) (s : State) : Changes s (ringStore k x s) := by
  obtain ⟨free, rings, h⟩ | h := ringStore_shape k x s <;> rw [h]
  · exact changes_of_tracked rfl
  · exact countUp_changes _ s

theorem changePart_changes (n : Nat) (k : Fin 16) (f : StreamPart → StreamPart) (s : State) :
    Changes s (changePart n k f s) := .single (.recordChanged n _ s (fun _ => rfl) (fun _ => rfl) fun _ h => h)

theorem changeFlags_changes (n : Nat) (f : RecordFlags → RecordFlags) (s : State) : Changes s (changeFlags n f s) :=
  .single (.recordChanged n _ s (fun _ => rfl) (fun _ => rfl) fun _ h => h)

theorem stopCollecting_changes (n : Nat) (k : Fin 16) (s : State) : Changes s (stopCollecting n k s) :=
  (changePart_changes n k stoppedPart s).tail (.untracked rfl)

theorem closeIfDone_changes (n : Nat) (s : State) : Changes s (closeIfDone n s) := by
  obtain h | ⟨r, found, opened, -, h⟩ := closeIfDone_cases n s
  · rw [h]
  · rw [h]
    obtain rfl := findRecord_number found
    exact ((Relation.ReflTransGen.single (.recordClosed r s found opened)).tail (.untracked rfl)).trans
      (raiseNotice_changes _ _)

theorem cutWindow_changes (n : Nat) (k : Fin 16) (s : State) : Changes s (cutWindow n k s) :=
  (stopCollecting_changes n k s).trans ((changeFlags_changes n _ _).trans
    ((countUp_changes _ _).trans (closeIfDone_changes n _)))

theorem captureStore_changes (n : Nat) (k : Fin 16) (x : Sample) (s : State) : Changes s (captureStore n k x s) := by
  obtain h | ⟨f, h⟩ | ⟨f, page, rest, -, h⟩ | ⟨-, h⟩ := captureStore_cases n k x s
  · rw [h]
  · rw [h]; exact changePart_changes n k f s
  · rw [h]; exact changes_after (changePart_changes n k f { s with free := rest }) rfl
  · rw [h]; exact cutWindow_changes n k s

/-! ## Triggers (R24 to R34) -/

/-- A discard counts and is announced in the state before its removal as well (R31). -/
theorem discardRecord_eq (n : Nat) (s : State) :
    discardRecord n s = removeRecord n (raiseNotice (.recordDiscarded n) (countUp .recordDiscarded s)) := by
  rw [discardRecord, countUp_aside (removeRecord_aside n), raiseNotice_aside (removeRecord_aside n)]

theorem retriggered_bounded (profile : Profile) (t : Trigger) (r : CaptureRecord)
    (h : r.retriggers.length ≤ retriggerTotal) : (retriggered profile t r).retriggers.length ≤ retriggerTotal := by
  unfold retriggered
  split
  · next room => simpa using room
  · exact h

theorem retriggered_state (profile : Profile) (t : Trigger) (r : CaptureRecord) :
    (retriggered profile t r).state = r.state := by unfold retriggered; split <;> rfl

theorem decideTrigger_changes (t : Trigger) (s : State) : Changes s (decideTrigger t s).1 := by
  obtain ⟨n, -, e⟩ | e | e | ⟨room, e⟩ | ⟨r, candidate, e⟩ := decideTrigger_cases t s <;> rw [e]
  · exact .single (.recordChanged n _ s (fun r => (retriggered_stored _ t r).1.1.1) (retriggered_state _ t)
      (retriggered_bounded _ t))
  · exact countUp_changes _ s
  · exact countUp_changes _ s
  · exact .single (.recordOpened t s room)
  · obtain ⟨member, sealed_read⟩ : r ∈ s.records ∧ _ :=
      ⟨List.mem_of_find?_eq_some candidate, List.find?_some candidate⟩
    have closed : r.state = .closed := of_decide_eq_true (Bool.and_eq_true_iff.mp sealed_read).1
    rw [discardRecord_eq]
    refine ((countUp_changes .recordDiscarded s).trans (raiseNotice_changes (.recordDiscarded r.number) _)).tail
      (.recordReplaced t r _ ?_ closed)
    have records : (raiseNotice (.recordDiscarded r.number) (countUp .recordDiscarded s)).records = s.records :=
      congrArg CaptureView.records
        ((raiseNotice_view (.recordDiscarded r.number) _).trans (countUp_view .recordDiscarded s))
    exact records ▸ member

theorem takeTrigger_changes (t : Trigger) (s : State) : Changes s (takeTrigger t s) := by
  obtain e | ⟨-, -, e⟩ := takeTrigger_cases t s <;> rw [e]
  · exact changes_of_tracked rfl
  · exact (decideTrigger_changes t s).tail (.untracked rfl)

/-! ## Deliveries and firings (R8, R72 to R77, R117) -/

theorem makeOutput_changes (k : Fin 16) (raw : RawSample) (s : State) : Changes s (makeOutput k raw s) := by
  obtain h | h := makeOutput_cases k raw s <;> rw [h]
  · exact changes_of_tracked rfl
  · exact changes_after (countUp_changes _ _) rfl

theorem storeStage_changes (x : FilteredSample) (s : State) : Changes s (storeStage x s) := by
  unfold storeStage
  split
  · exact ringStore_changes _ _ s
  · exact captureStore_changes _ _ _ s
  · exact changes_refl s

theorem takeStreamTriggers_changes (k : Fin 16) (s : State) : Changes s (takeStreamTriggers k s) :=
  changes_after
    (changes_foldl (fun t x => conclude (takeTrigger x t))
      (fun x t => (takeTrigger_changes x t).trans (conclude_changes _)) (s.triggers.filter (ofStream k))
      { s with triggers := s.triggers.filter fun x => !ofStream k x }) rfl

theorem storeOutput_changes (k : Fin 16) (raw : RawSample) (s : State) : Changes s (storeOutput k raw s) :=
  (takeStreamTriggers_changes k s).trans ((makeOutput_changes k raw _).trans (storeStage_changes _ _))

theorem deliver_changes (k : Fin 16) (s : State) : Changes s (deliver k s) := by
  unfold deliver
  split
  · exact changes_refl s
  · exact (storeOutput_changes k _ s).tail (.sampleJudged _ _)

theorem fireWatch_changes (w : Fin 8) (s : State) : Changes s (fireWatch w s) := by
  unfold fireWatch
  split
  · exact changes_refl s
  · next x _ =>
    obtain ⟨triggers, requests, sent⟩ := sendFiring_shape s.watches[w].definition.profile s.watches[w].definition.alarm
      (.watch w) x.time (some { stream := x.stream, index := x.index, value := x.value }) s
    rw [sent]
    exact changes_after (.single (.watchFired w { s with triggers := triggers, alarmRequests := requests })) rfl

theorem settleWatches_changes (s : State) : Changes s (settleWatches s) :=
  changes_foldl _ (fun w t => (Relation.ReflTransGen.single (.holdoffEnded w t)).trans (fireWatch_changes w _)) _ s

/-! ## The arrival at IDLE and the steps that follow at once (R39 to R43, R128 to R130) -/

theorem deliverDue_changes (k : Fin 16) (s : State) : Changes s (deliverDue k s) := by
  unfold deliverDue
  split
  · exact (conclude_changes s).trans ((deliver_changes k _).trans ((conclude_changes _).trans (settleWatches_changes _)))
  · exact changes_refl s

theorem reachIdle_changes (reason : IdleReason) (s : State) : Changes s (reachIdle reason s) := by
  rw [reachIdle_eq]
  exact ((Relation.ReflTransGen.single (.disarmed .idle s)).tail (.untracked rfl)).trans (raiseNotice_changes _ _)

theorem endDrain_changes (s : State) : Changes s (endDrain s) := by
  unfold endDrain
  split
  · exact (changes_foldl _ (fun k t => deliverDue_changes k t) allStreams s).trans (reachIdle_changes _ _)
  · exact changes_refl s

theorem reachPostCount_changes (k : Fin 16) (s : State) : Changes s (reachPostCount k s) := by
  unfold reachPostCount
  split
  · exact (stopCollecting_changes _ k s).trans ((closeIfDone_changes _ _).trans (endDrain_changes _))
  · exact changes_refl s

theorem settlePostCounts_changes (s : State) : Changes s (settlePostCounts s) := by
  refine changes_foldl _ (fun k t => ?_) _ s
  unfold settlePostCount
  split
  · exact (reachPostCount_changes k t).trans (conclude_changes _)
  · exact changes_refl t

theorem settle_changes (s : State) : Changes s (settle s) :=
  (settlePostCounts_changes s).trans (settleWatches_changes _)

theorem takeOutput_changes (k : Fin 16) (s : State) : Changes s (takeOutput k s) := by
  unfold takeOutput
  split
  · exact changes_refl s
  · exact ((storeOutput_changes k _ s).trans (endDrain_changes _)).tail (.sampleJudged _ _)

theorem takeDueOutput_changes (k : Fin 16) (s : State) : Changes s (takeDueOutput k s) := by
  unfold takeDueOutput
  split
  · exact (takeOutput_changes k s).trans ((conclude_changes _).trans (settle_changes _))
  · exact changes_refl s

theorem deliverAll_changes (s : State) : Changes s (deliverAll s) :=
  changes_foldl _ (fun k t => takeDueOutput_changes k t) _ s

/-! ## Start and Stop (R125 to R130) -/

theorem beginRound_tracked (s : State) : trackedView (beginRound s) = trackedView s := by
  unfold beginRound; split <;> rfl

theorem startRounds_tracked (s : State) : trackedView (startRounds s) = trackedView s := by
  unfold startRounds
  split
  · exact beginRound_tracked s
  · rfl
  · rfl

theorem beginRun_changes (s : State) : Changes s (beginRun s) := by
  rw [beginRun_eq]
  have armed : Changes s { armAll s with acquisition := .running } := .single (.armed s)
  exact armed.trans (changes_of_tracked ((startRounds_tracked _).trans rfl))

theorem disarmAll_changes (s : State) : Changes s (disarmAll s) := .single (.disarmed s.acquisition s)

theorem stopRecord_changes (n : Nat) (s : State) : Changes s (stopRecord n s) := by
  unfold stopRecord
  split
  · exact changes_refl s
  · refine (changes_foldl _ (fun p t => ?_) _ s).trans (changeFlags_changes n _ _)
    split
    · exact stopCollecting_changes n p.stream t
    · exact changes_refl t

theorem stopAllRecords_changes (s : State) : Changes s (stopAllRecords s) :=
  (changes_foldl _ (fun n t => stopRecord_changes n t) _ s).trans
    (changes_foldl _ (fun n t => closeIfDone_changes n t) _ _)

theorem stopNow_changes (s : State) : Changes s (stopNow s) :=
  (disarmAll_changes s).trans ((stopAllRecords_changes _).trans (reachIdle_changes _ _))

theorem stopEffect_changes (mode : Byte) (s : State) : Changes s (stopEffect mode s) := by
  have gently : Changes s (stopGently s) := by
    unfold stopGently
    split
    · exact .single (.disarmed .draining s)
    · exact (disarmAll_changes s).trans (reachIdle_changes _ _)
  unfold stopEffect
  split
  · exact changes_refl s
  · split
    · exact gently
    · exact stopNow_changes s
  · split
    · exact changes_refl s
    · exact stopNow_changes s

end Sys2Proof.Machine
end

section
namespace Sys2Proof.Machine

/-! ## The Alarm Unit (chapter 8) -/

theorem frameClass_disownReport (id : Byte) (f : Frame) : frameClass (disownReport id f) = frameClass f := by
  obtain ⟨kind, _, _, _⟩ := f
  cases kind <;> rfl

theorem withdrawReport_changes (id : Byte) (s : State) : Changes s (withdrawReport id s) :=
  (Relation.ReflTransGen.single (.transmitted { s.transmit with urgent := s.transmit.urgent.filter fun f => !reportsAlarm id f }
    s ⟨List.filter_sublist, .refl _, .refl _, .refl _⟩)).tail (.alarmsDropped _ _)

theorem orphanReport_changes (id : Byte) (s : State) : Changes s (orphanReport id s) := by
  refine .single (.transmitted _ s ⟨.refl _, .refl _, ?_, .refl _⟩)
  cases s.transmit.sending with
  | none => exact .refl _
  | some t => simp [stackRanks, frameClass_disownReport]

theorem acknowledge_changes (id : Byte) (s : State) : Changes s (acknowledge id s) :=
  ((withdrawReport_changes id s).trans (orphanReport_changes id _)).tail (.alarmRemoved id _)

theorem takeAlarmRequest_changes (r : AlarmRequest) (s : State) : Changes s (takeAlarmRequest r s) := by
  by_cases room : s.alarms.length < alarmTotal
  · exact .single (.alarmListed r s room)
  · rw [takeAlarmRequest, if_neg room]
    exact (countUp_changes _ s).tail (.alarmsDropped 1 _)

theorem findAlarm_elapse (id : Byte) (units : Nat) (s : State) :
    findAlarm id (elapse units s) = (findAlarm id s).map (ageAlarm units) := List.find?_map

theorem expireAcknowledgement_changes (e : AlarmEntry) (s : State) (x : AlarmEntry) (found : findAlarm e.id s = some x)
    (sends : x.sendCount = e.sendCount) : Changes s (expireAcknowledgement e s) := by
  unfold expireAcknowledgement
  split
  · next few => exact .single (.alarmResent e.id x s found (sends ▸ few))
  · exact ((Relation.ReflTransGen.single (.alarmRemoved e.id s)).trans (raiseNotice_changes _ _)).trans
      (countUp_changes _ _)

theorem takeAlarmExpiry_changes (id : Byte) (s : State) : Changes s (takeAlarmExpiry id s) := by
  unfold takeAlarmExpiry
  split
  · next e found =>
    split
    · next remaining _ =>
      have identified : e.id = id := by simpa using List.find?_some found
      refine (Relation.ReflTransGen.single (.timePasses remaining s)).trans
        (expireAcknowledgement_changes e _ (ageAlarm remaining e) ?_ rfl)
      rw [identified, findAlarm_elapse, found]
      rfl
    · exact changes_refl s
    · exact changes_refl s
  · exact changes_refl s

/-! ## Rounds, the external trigger and the pins (chapters 4 and 5) -/

theorem elapse_changes (units : Nat) (s : State) : Changes s (elapse units s) := .single (.timePasses units s)

theorem startEvent_changes (s : State) : Changes s (startEvent s) := by
  unfold startEvent
  split
  · exact changes_of_tracked (beginRound_tracked s)
  · exact countUp_changes _ s

theorem expirePacer_changes (s : State) : Changes s (expirePacer s) := by
  unfold expirePacer
  split
  · exact (elapse_changes _ s).trans (changes_after (startEvent_changes _) rfl)
  · exact changes_refl s

theorem takeConvIn_changes (edge : Edge) (s : State) : Changes s (takeConvIn edge s) := by
  unfold takeConvIn
  split
  · exact changes_refl s
  · dsimp only
    split
    · exact changes_after (startEvent_changes { s with pins := { s.pins with convIn := edgeLevel edge } }) rfl
    · exact changes_of_tracked rfl

theorem completeConversion_tracked (start : Time) (k : Fin 16) (overdue : Int) (level : Nat) (s : State) :
    trackedView (completeConversion start k overdue level s) = trackedView s := by
  have drawn : trackedView (drawRounding (slotOf k s) level s) = trackedView s := by
    unfold drawRounding; split <;> rfl
  exact drawn

theorem finishConversion_changes (level : Nat) (s : State) : Changes s (finishConversion level s) := by
  unfold finishConversion
  split
  · exact (elapse_changes _ s).trans (changes_of_tracked (completeConversion_tracked _ _ _ _ _))
  · exact changes_refl s

theorem takeConversion_changes (level : Nat) (s : State) : Changes s (takeConversion level s) := by
  unfold takeConversion
  split
  · exact (takeDueOutput_changes _ s).trans (finishConversion_changes level _)
  · exact changes_refl s

theorem takeTrigIn_changes (edge : Edge) (s : State) : Changes s (takeTrigIn edge s) := by
  unfold takeTrigIn
  split
  · exact changes_refl s
  · dsimp only
    split
    · exact changes_after (.single (.externalFired { s with pins := { s.pins with trigIn := edgeLevel edge } })) rfl
    · exact changes_of_tracked rfl

theorem expireExternalHoldoff_changes (s : State) : Changes s (expireExternalHoldoff s) := by
  unfold expireExternalHoldoff
  split
  · next remaining h =>
    refine (elapse_changes remaining s).tail (.externalRearmed _ ?_)
    rw [elapse_external, h]
    nofun
  · exact changes_refl s
  · exact changes_refl s

theorem endTrigOutPulse_changes (s : State) : Changes s (endTrigOutPulse s) := by
  unfold endTrigOutPulse
  split
  · exact (elapse_changes _ s).tail (.untracked rfl)
  · exact changes_refl s

theorem takeTriggerAt_changes (position : Nat) (s : State) : Changes s (takeTriggerAt position s) := by
  unfold takeTriggerAt
  split
  · exact changes_after (takeTrigger_changes _ { s with triggers := s.triggers.eraseIdx position }) rfl
  · exact changes_refl s

theorem takeAlarmRequestAt_changes (position : Nat) (s : State) : Changes s (takeAlarmRequestAt position s) := by
  unfold takeAlarmRequestAt
  split
  · exact changes_after (takeAlarmRequest_changes _ { s with alarmRequests := s.alarmRequests.eraseIdx position }) rfl
  · exact changes_refl s

/-! ## Readouts and releases (R47 to R49, R61 to R67) -/

theorem endReadout_changes (reason : ReadoutEnd) (s : State) : Changes s (endReadout reason s) :=
  ((Relation.ReflTransGen.single (.readoutEnded s)).tail
    (.transmitted (disownChunk (releaseReadout s)).transmit _ ⟨.refl _, .refl _, .refl _, .refl _⟩)).trans
    (raiseNotice_changes _ _)

theorem completeReadout_changes (s : State) : Changes s (completeReadout s) :=
  (changeFlags_changes _ _ s).tail (.readoutEnded _)

theorem releaseRecord_changes (r : CaptureRecord) (s : State) (member : r ∈ s.records) (ended : r.state ≠ .opened) :
    Changes s (releaseRecord r s) := by
  unfold releaseRecord
  split
  · refine (endReadout_changes .released s).tail (.recordRemoved r.number _ fun _ => .inl ?_)
    obtain ⟨_, _, _, raised, -⟩ := raiseNotice_shape
      (.readoutEnded s.readout.record .released (resumeOffset .released s)) (disownChunk (releaseReadout s))
    rw [endReadout, raised]
    rfl
  · next unread =>
    refine .single (.recordRemoved r.number s fun _ => .inr ⟨r, member, rfl, ?_⟩)
    cases h : r.state with
    | opened => exact absurd h ended
    | closed => rfl
    | reading => exact absurd h unread

/-- Removals of SEALED records, one after another (R49). -/
theorem foldl_removeRecord_changes (l : List Nat) (s : State)
    (h : ∀ n ∈ l, n ∈ recordNumbers s → ∃ r ∈ s.records, r.number = n ∧ r.state = .closed) :
    Changes s (l.foldl (fun t n => removeRecord n t) s) := by
  induction l generalizing s with
  | nil => exact changes_refl s
  | cons n rest ih =>
    refine (Relation.ReflTransGen.single (.recordRemoved n s fun hn => .inr (h n List.mem_cons_self hn))).trans
      (ih _ fun m hm present => ?_)
    obtain ⟨x, left, rfl⟩ := List.mem_map.mp present
    obtain ⟨member, other⟩ := List.mem_filter.mp left
    obtain ⟨r, hr, number, closed⟩ := h x.number (List.mem_cons_of_mem _ hm) (List.mem_map_of_mem member)
    exact ⟨r, List.mem_filter.mpr ⟨hr, by rw [number]; exact other⟩, number, closed⟩

theorem releaseSealed_changes (s : State) : Changes s (releaseSealed s) := by
  refine foldl_removeRecord_changes _ s fun n hn _ => ?_
  obtain ⟨r, member, number⟩ := List.mem_map.mp hn
  obtain ⟨hr, closed⟩ := List.mem_filter.mp member
  exact ⟨r, hr, number, of_decide_eq_true closed⟩

/-! ## The receiver (R158 to R165) -/

theorem framingError_changes (byOpen : Bool) (s : State) : Changes s (framingError byOpen s) :=
  changes_after (countUp_changes _ (setReceiver _ s)) rfl

theorem checkFrame_changes (content : List Byte) (s : State) : Changes s (checkFrame content s) := by
  unfold checkFrame
  dsimp only
  split
  · split
    · unfold offerRequest
      split
      · next room => exact .single (.requestQueued _ s room)
      · exact countUp_changes _ s
    · exact changes_refl s
  · exact countUp_changes _ s

theorem collectByte_changes (b : Byte) (s : State) : Changes s (collectByte b s) := by
  unfold collectByte
  dsimp only
  split
  · exact changes_after (checkFrame_changes _ (setReceiver _ s)) rfl
  · exact changes_of_tracked rfl

theorem receiveCharacter_changes (c : RxCharacter) (s : State) : Changes s (receiveCharacter c s) := by
  unfold receiveCharacter
  split
  · exact changes_refl s
  · split
    · cases c with
      | good b => simp only [takeInHunt]; split <;> exact changes_of_tracked rfl
      | error => exact changes_refl s
      | startedInReset => exact changes_refl s
    · cases c with
      | good b =>
        simp only [takeInFrame]
        split
        · exact framingError_changes _ s
        · split
          · exact framingError_changes _ s
          · split
            · exact changes_of_tracked rfl
            · exact collectByte_changes b s
      | error => exact framingError_changes _ s
      | startedInReset => exact changes_refl s
    · cases c with
      | good b =>
        simp only [takeEscaped]
        split
        · exact framingError_changes _ s
        · split
          · exact collectByte_changes _ s
          · exact framingError_changes _ s
      | error => exact framingError_changes _ s
      | startedInReset => exact changes_refl s

theorem receiveTimeout_changes (s : State) : Changes s (receiveTimeout s) := by
  unfold receiveTimeout
  split
  · exact (elapse_changes _ s).trans (changes_after (countUp_changes _ (setReceiver _ _)) rfl)
  · exact changes_refl s

theorem endBrokenFrame_changes (s : State) : Changes s (endBrokenFrame s) := by
  unfold endBrokenFrame
  split
  · exact changes_refl s
  · exact (receiveCharacter_changes _ s).trans (conclude_changes _)
  · exact (receiveCharacter_changes _ s).trans (conclude_changes _)

/-! ## The link reset (R167, R168, R180) -/

theorem tellAbort_changes (s : State) : Changes s (tellAbort s) := by
  unfold tellAbort
  split
  · exact changes_refl s
  · exact .single (.transmitted _ s ⟨.refl _, .refl _, .refl _, .refl _⟩)

theorem breakTransmitter_changes (s : State) : Changes s (breakTransmitter s) := by
  have told : Changes s (if inTransmission s then tellAbort s else s) := by
    split
    · exact tellAbort_changes s
    · exact changes_refl s
  exact told.tail (.transmitted _ _ ⟨.refl _, .refl _, List.nil_sublist _, List.nil_sublist _⟩)

theorem breakQueues_changes (discarded : List Frame) (s : State) : Changes s (breakQueues discarded s) := by
  have dropped : Changes s (addDrops (discarded.map carriedDrops).sum s) := .single (.alarmsDropped _ s)
  have emptied := dropped.tail (.transmitted { s.transmit with urgent := [], normal := [] } _
    ⟨List.nil_sublist _, List.nil_sublist _, .refl _, .refl _⟩)
  exact (emptied.tail (.alarmsRequeued _)).trans (countTimes_changes _ _ _)

theorem clearLink_changes (s : State) : Changes s (clearLink s) := by
  have received : Changes s (breakReceiver (holdNotices s)) :=
    ((holdNotices_changes s).tail (.requestsDiscarded _)).tail (.untracked rfl)
  have readout : ∀ t, Changes t (breakReadout t) := by
    intro t
    unfold breakReadout
    split
    · exact changes_refl t
    · exact .single (.readoutEnded t)
  exact received.trans ((breakTransmitter_changes _).trans ((breakQueues_changes _ _).trans
    ((readout _).trans (countUp_changes _ _))))

theorem announceLink_changes (readout : List Notice) (s : State) : Changes s (announceLink readout s) :=
  (stopHolding_changes s).trans (offered_changes _ _)

/-- A link reset does not look at what the Dispatcher does (R167). -/
theorem linkReset_freeDispatcher (pins : PinLevels) (s : State) :
    linkReset pins (freeDispatcher s) = freeDispatcher (linkReset pins s) := by
  have transmitter : ∀ t, breakTransmitter (freeDispatcher t) = freeDispatcher (breakTransmitter t) := by
    intro t
    have same : inTransmission (freeDispatcher t) = inTransmission t := rfl
    have told : tellAbort (freeDispatcher t) = freeDispatcher (tellAbort t) := by
      have same : aborting (freeDispatcher t) = aborting t := rfl
      unfold tellAbort
      rw [same]
      split <;> rfl
    unfold breakTransmitter
    rw [same, told]
    split <;> rfl
  have queues : ∀ l t, breakQueues l (freeDispatcher t) = freeDispatcher (breakQueues l t) :=
    fun l t => countTimes_aside freeDispatcher_aside .replyDiscarded _
      { addDrops (l.map carriedDrops).sum t with
        transmit := { t.transmit with urgent := [], normal := [] }, alarms := t.alarms.map requeueAlarm }
  have readout : ∀ t, breakReadout (freeDispatcher t) = freeDispatcher (breakReadout t) := by
    intro t
    have same : (freeDispatcher t).readout.state = t.readout.state := rfl
    unfold breakReadout
    rw [same]
    split <;> rfl
  have cleared : clearLink (freeDispatcher s) = freeDispatcher (clearLink s) := by
    have same : discardedFrames (freeDispatcher s) = discardedFrames s := rfl
    have received : breakReceiver (holdNotices (freeDispatcher s)) = freeDispatcher (breakReceiver (holdNotices s)) := rfl
    rw [clearLink, same, received, transmitter, queues, readout, countUp_aside freeDispatcher_aside]
    rfl
  have announced : ∀ l t, announceLink l (freeDispatcher t) = freeDispatcher (announceLink l t) :=
    fun l t => offered_aside freeDispatcher_aside (Notice.restarted .link :: l ++ heldNotices t) (stopHolding t)
  have restarted : ∀ t, restartAfterBreak pins (freeDispatcher t) = freeDispatcher (restartAfterBreak pins t) := by
    intro t
    have same : aborting (freeDispatcher t) = aborting t := rfl
    unfold restartAfterBreak
    rw [same]
    split
    · rfl
    · rw [endReset_eq, endReset_eq]
      rfl
  have broken : brokenReadout (freeDispatcher s) = brokenReadout s := rfl
  have discards : discardsRestart (freeDispatcher s) = discardsRestart s := rfl
  simp only [linkReset, cleared, broken, discards, announced, restarted]
  split <;> rfl

/-! ## Resets (R146, R168, R181, R221) -/

theorem endReset_turns (cause : RestartCause) (pins : PinLevels) (s : State) : Turns s (endReset cause pins s) := by
  have fresh : Turns s { resetBlocks s with
      pins := { convIn := pins.convIn, trigIn := pins.trigIn, trigOut := none }
      transmit := resetTransmit (strappedRate pins) } := .single (.reset (strappedRate pins) rfl)
  exact fresh.trans (turns_of_changes (raiseNotice_changes _ _))

theorem enterReset_turns (s : State) : Turns s (enterReset s) := .single (.reset 0 rfl)

theorem restartAfterBreak_turns (pins : PinLevels) (s : State) : Turns s (restartAfterBreak pins s) := by
  unfold restartAfterBreak
  split
  · exact .single (.change (.untracked rfl))
  · exact endReset_turns _ pins s

theorem linkReset_turns (pins : PinLevels) (s : State) : Turns s (linkReset pins s) := by
  have announced := (clearLink_changes s).trans (announceLink_changes (brokenReadout s) _)
  unfold linkReset
  dsimp only
  split
  · exact (turns_of_changes announced).trans (restartAfterBreak_turns pins _)
  · exact turns_of_changes announced

theorem takePinReset_turns (s : State) : Turns s (takePinReset s) := by
  unfold takePinReset
  split
  · exact turns_of_changes ((tellAbort_changes s).tail (.untracked rfl))
  · exact enterReset_turns s

/-! ## Boundaries (chapter 10) -/

theorem chunkSent_changes (s : State) : Changes s (chunkSent s) := by
  have emptied : Changes s (emptyBuffer s) := .single (.transmitted _ s ⟨.refl _, .refl _, .refl _, .refl _⟩)
  unfold chunkSent
  split
  · split
    · exact emptied.trans (completeReadout_changes _)
    · exact emptied
  · exact changes_refl s

theorem completeFrame_changes (f : Frame) (s : State) : Changes s (completeFrame f s) := by
  have ended : Changes s { s with transmit := { s.transmit with sending := none } } :=
    .single (.transmitted _ s ⟨.refl _, .refl _, List.nil_sublist _, .refl _⟩)
  unfold completeFrame
  dsimp only
  split
  · split
    · exact ended.tail (.alarmSent _ _)
    · exact ended
  · exact ended.trans (chunkSent_changes _)
  · exact ended
  · exact ended
  · exact ended

theorem finishFrame_turns (f : Frame) (pins : PinLevels) (s : State) : Turns s (finishFrame f pins s) := by
  have completed := completeFrame_changes f s
  have chosen := turns_of_changes (completed.tail (.frameChosen _))
  unfold finishFrame
  split
  · refine (turns_of_changes completed).trans ?_
    unfold restartAfterReply
    split
    · exact endReset_turns _ pins _
    · exact turns_of_changes (changes_after (sendCharacter_changes charAbort { completeFrame f s with
        resetting := { (completeFrame f s).resetting with awaited := some .restart } }) rfl)
  · exact chosen
  · exact chosen
  · exact chosen
  · exact chosen

theorem abortSent_turns (pins : PinLevels) (s : State) : Turns s (abortSent pins s) := by
  unfold abortSent
  split
  · split
    · exact enterReset_turns s
    · exact endReset_turns _ pins s
  · exact endReset_turns _ pins s
  · exact .single (.change (.frameChosen s))

theorem continueFrame_changes (just : Byte) (t : Transmission) (next : Byte) (rest : List Byte) (s : State)
    (sending : s.transmit.sending = some t) : Changes s (continueFrame just t next rest s) := by
  unfold continueFrame
  split
  · next h => exact .single (.frameSuspended t s sending (Bool.and_eq_true_iff.mp h).2)
  · refine .single (.transmitted _ s ⟨.refl _, .refl _, ?_, .refl _⟩)
    rw [sending]
    exact .refl _

theorem characterBoundary_turns (just : Byte) (pins : PinLevels) (s : State) :
    Turns s (characterBoundary just pins s) := by
  unfold characterBoundary
  split
  · exact .single (.change (.transmitted _ s ⟨.refl _, .refl _, .refl _, .refl _⟩))
  · split
    · exact abortSent_turns pins s
    · split
      · next t sending =>
        split
        · exact turns_of_changes (continueFrame_changes just t _ _ s sending)
        · exact finishFrame_turns _ pins s
      · exact .single (.change (.frameChosen s))

theorem takeBoundary_turns (pins : PinLevels) (s : State) : Turns s (takeBoundary pins s) := by
  unfold takeBoundary
  split
  · exact (turns_of_changes (elapse_changes _ s)).trans (characterBoundary_turns _ pins _)
  · exact .refl

end Sys2Proof.Machine
end

section
namespace Sys2Proof.Machine

/-! ## Requests (R184 to R188) -/

/-- A reply that ends its request's execution (R184, R187). -/
theorem withReply_turns (f : Frame) (d : Dispatcher) (r : Request) (s : State) (executing : s.dispatcher.state = .executing r)
    (class_normal : frameClass f = .normal) (done : ∀ q, d.state ≠ .executing q) (behind : d.behind = s.dispatcher.behind) :
    Turns s (withReply f d s) := by
  unfold withReply
  rw [← decideIdle_dispatcher]
  exact (Relation.ReflTransGen.single (.replied f d r s executing class_normal done behind)).trans
    (turns_of_changes (decideIdle_changes _))

theorem afterReply_turns (cut : Option PinLevels) (s : State) : Turns s (afterReply cut s) := by
  cases cut with
  | none => exact .refl
  | some pins => exact (turns_of_changes (discardHeld_changes s)).trans (linkReset_turns pins _)

theorem offerOrCut_turns (cut : Option PinLevels) (s : State) : Turns s (offerOrCut cut s) := by
  cases cut with
  | none => exact turns_of_changes (offerHeld_changes s)
  | some pins => exact afterReply_turns (some pins) s

/-- What follows a reply does not look at what the Dispatcher does (R188). -/
theorem afterReply_freeDispatcher (cut : Option PinLevels) (s : State) :
    afterReply cut (freeDispatcher s) = freeDispatcher (afterReply cut s) := by
  have discarded : discardHeld (freeDispatcher s) = freeDispatcher (discardHeld s) := by
    have all : ∀ (l : List Notice) (t : State), l.foldl (fun t n => markNotice n .reported t) (freeDispatcher t)
        = freeDispatcher (l.foldl (fun t n => markNotice n .reported t) t) := by
      intro l
      induction l with
      | nil => exact fun _ => rfl
      | cons n rest ih =>
        intro t
        rw [List.foldl_cons, List.foldl_cons, markNotice_aside freeDispatcher_aside, ih]
    exact all (heldNotices s) (stopHolding s)
  cases cut with
  | none => rfl
  | some pins => rw [afterReply, discarded, linkReset_freeDispatcher, afterReply]

theorem offerOrCut_freeDispatcher (cut : Option PinLevels) (s : State) :
    offerOrCut cut (freeDispatcher s) = freeDispatcher (offerOrCut cut s) := by
  cases cut with
  | none => exact offered_aside freeDispatcher_aside (heldNotices s) (stopHolding s)
  | some pins => exact afterReply_freeDispatcher (some pins) s

/-- The reply of a request and the end of its execution, in either order (R184, R187). -/
theorem freeDispatcher_queueReply_turns (r : Request) (status : Status) (data : List Byte) (s : State)
    (executing : s.dispatcher.state = .executing r) : Turns s (freeDispatcher (queueReply r status data s)) := by
  rw [queueReply_eq, freeDispatcher_withReply]
  exact withReply_turns _ _ r s executing rfl (fun _ => nofun) rfl

theorem answerRefused_turns (cut : Option PinLevels) (r : Request) (e : Refused) (s : State)
    (executing : s.dispatcher.state = .executing r) : Turns s (answerRefused cut r e s) := by
  rw [answerRefused, ← afterReply_freeDispatcher]
  exact (freeDispatcher_queueReply_turns r e.status _ s executing).trans (afterReply_turns cut _)

/-- A request whose effect is made of changes is made of turns, with its reply, its notices and a break. -/
theorem answer_turns {α : Type} (cut : Option PinLevels) (r : Request) (verdict : Verdict α)
    (effect : α → State → State × List Byte) (s : State) (executing : s.dispatcher.state = .executing r)
    (h : ∀ a, verdict = .ok a → Changes (holdNotices s) (effect a (holdNotices s)).1) :
    Turns s (answer cut r verdict effect s) := by
  cases verdict with
  | error e => exact answerRefused_turns cut r e s executing
  | ok a =>
    have done := (holdNotices_changes s).trans (h a rfl)
    have eq : answer cut r (.ok a) effect s = freeDispatcher (offerOrCut cut
        (queueReply r .ok (effect a (holdNotices s)).2 (effect a (holdNotices s)).1)) := rfl
    rw [eq, ← offerOrCut_freeDispatcher]
    exact (turns_of_changes done).trans
      ((freeDispatcher_queueReply_turns r .ok _ _ (executing_of_changes done executing)).trans (offerOrCut_turns cut _))

/-- A request that touches other pieces of state. -/
theorem answer_turns_of_tracked {α : Type} (cut : Option PinLevels) (r : Request) (verdict : Verdict α)
    (effect : α → State → State × List Byte) (s : State) (executing : s.dispatcher.state = .executing r)
    (h : ∀ a t, trackedView (effect a t).1 = trackedView t) : Turns s (answer cut r verdict effect s) :=
  answer_turns cut r verdict effect s executing fun a _ => changes_of_tracked (h a _)

section

variable (cut : Option PinLevels) (r : Request) (s : State) (executing : s.dispatcher.state = .executing r)

include executing

theorem runRestart_turns : Turns s (runRestart cut r s) := by
  unfold runRestart
  split
  · exact answerRefused_turns cut r _ s executing
  · refine .trans ?_ (afterReply_turns cut _)
    have replied := withReply_turns { replyFrame r .ok [] with kind := .restartReply }
      { s.dispatcher with state := .restarting } r s executing rfl (fun _ => nofun) rfl
    have same : (queueReplyFrame { replyFrame r .ok [] with kind := .restartReply } s).dispatcher = s.dispatcher := by
      unfold queueReplyFrame decideIdle
      split
      · obtain ⟨_, _, chosen⟩ := chooseFrame_shape (queueNormal { replyFrame r .ok [] with kind := .restartReply } s)
        rw [chosen]
        rfl
      · rfl
    rw [same]
    exact replied

theorem runReadCounters_turns : Turns s (runReadCounters cut r s) := by
  refine answer_turns cut r _ _ s executing fun clear _ => ?_
  dsimp only
  split
  · refine .single (.counters _ _ fun i _ => ?_)
    have zero : (Vector.replicate 16 resetCounter)[i] = resetCounter := by simp
    rw [zero]
    exact Nat.zero_le _
  · exact changes_refl _

theorem runSetTime_turns : Turns s (runSetTime cut r s) :=
  answer_turns cut r _ _ s executing fun time _ => .single (.timeIsSet time _)

theorem runConfigureWatch_turns : Turns s (runConfigureWatch cut r s) :=
  answer_turns cut r _ _ s executing fun v _ => .single (.watchEdited v.1 v.2 _)

theorem runConfigureExternal_turns : Turns s (runConfigureExternal cut r s) :=
  answer_turns cut r _ _ s executing fun d _ => .single (.externalEdited d _)

theorem runStart_turns : Turns s (runStart cut r s) := by
  unfold runStart
  refine answer_turns cut r _ _ s executing fun _ _ => ?_
  dsimp only
  exact beginRun_changes (holdNotices s)

theorem runStop_turns : Turns s (runStop cut r s) := by
  have before : Changes s (beforeStop (readStop r.payload) s) := by
    unfold beforeStop
    split
    · split
      · exact deliverAll_changes s
      · exact changes_refl s
    · exact changes_refl s
  exact (turns_of_changes before).trans
    (answer_turns cut r _ _ _ (executing_of_changes before executing) fun mode _ => stopEffect_changes mode _)

theorem runConvertOnce_turns : Turns s (runConvertOnce cut r s) :=
  answer_turns_of_tracked cut r _ _ s executing fun _ t => beginRound_tracked t

theorem runForceCapture_turns : Turns s (runForceCapture cut r s) :=
  answer_turns cut r _ _ s executing fun _ _ => decideTrigger_changes _ _

theorem runReadRecord_turns : Turns s (runReadRecord cut r s) := by
  refine answer_turns cut r _ _ s executing fun v ok => ?_
  obtain ⟨⟨n, offset⟩, -, checked⟩ := bind_ok ok
  obtain ⟨idle, checked⟩ := unlessOk_ok checked
  dsimp only at checked
  split at checked
  · cases checked
  · next x found =>
    obtain ⟨-, checked⟩ := unlessOk_ok checked
    obtain ⟨-, checked⟩ := unlessOk_ok checked
    obtain rfl : (x, offset) = v := Except.ok.inj checked
    obtain rfl := findRecord_number found
    exact .single (.readoutBegun r.tag x offset _ (of_decide_eq_true idle) found)

theorem runCancelReadout_turns : Turns s (runCancelReadout cut r s) :=
  answer_turns cut r _ _ s executing fun _ _ => endReadout_changes .cancelled _

theorem runReleaseRecord_turns : Turns s (runReleaseRecord cut r s) := by
  refine answer_turns cut r _ _ s executing fun x ok => ?_
  obtain ⟨n, -, checked⟩ := bind_ok ok
  unfold checkRelease at checked
  split at checked
  · cases checked
  · next y found =>
    obtain ⟨ended, checked⟩ := unlessOk_ok checked
    obtain rfl : y = x := Except.ok.inj checked
    exact releaseRecord_changes y _ (List.mem_of_find?_eq_some found) (by simpa [isOpen] using ended)

theorem runReleaseAllSealed_turns : Turns s (runReleaseAllSealed cut r s) :=
  answer_turns cut r _ _ s executing fun _ _ => releaseSealed_changes _

theorem runAcknowledgeAlarm_turns : Turns s (runAcknowledgeAlarm cut r s) :=
  answer_turns cut r _ _ s executing fun id _ => acknowledge_changes id _

/-- Every request, by its type (R185). -/
theorem runRequest_turns : Turns s (runRequest cut r s) := by
  unfold runRequest
  split
  · exact answer_turns_of_tracked cut r _ _ s executing fun _ _ => rfl
  · exact answer_turns_of_tracked cut r _ _ s executing fun _ _ => rfl
  · exact runReadCounters_turns cut r s executing
  · exact runSetTime_turns cut r s executing
  · exact runRestart_turns cut r s executing
  · exact answer_turns_of_tracked cut r _ _ s executing fun _ _ => rfl
  · exact answer_turns_of_tracked cut r _ _ s executing fun _ _ => rfl
  · exact answer_turns_of_tracked cut r _ _ s executing fun _ _ => rfl
  · exact answer_turns_of_tracked cut r _ _ s executing fun _ _ => rfl
  · exact runConfigureWatch_turns cut r s executing
  · exact runConfigureExternal_turns cut r s executing
  · exact answer_turns_of_tracked cut r _ _ s executing fun _ _ => rfl
  · exact answer_turns_of_tracked cut r _ _ s executing fun _ _ => rfl
  · exact runStart_turns cut r s executing
  · exact runStop_turns cut r s executing
  · exact runConvertOnce_turns cut r s executing
  · exact runForceCapture_turns cut r s executing
  · exact answer_turns_of_tracked cut r _ _ s executing fun _ _ => rfl
  · exact runReadRecord_turns cut r s executing
  · exact runCancelReadout_turns cut r s executing
  · exact runReleaseRecord_turns cut r s executing
  · exact runReleaseAllSealed_turns cut r s executing
  · exact runAcknowledgeAlarm_turns cut r s executing
  · exact answerRefused_turns cut r _ s executing

end

/-! ## Commands and steps -/

theorem takeBreak_turns (taken : LineBreak) (s : State) : Turns s (takeBreak taken s) := by
  have ended := turns_of_changes (endBrokenFrame_changes s)
  unfold takeBreak
  split
  · exact .refl
  · split
    · exact ended.trans (linkReset_turns _ _)
    · refine ended.trans ?_
      unfold interruptRequest
      split
      · next executing => exact runRequest_turns _ _ _ executing
      · exact linkReset_turns _ _
      · exact linkReset_turns _ _

/-- An event made of turns, with the due steps before it and what follows it (logs 1, 11 to 13). -/
theorem takeEvent_turns {event : State → State} (h : ∀ s, Turns s (event s)) (s : State) :
    Turns s (takeEvent event s) := by
  unfold takeEvent
  split
  · exact .refl
  · exact (turns_of_changes (settle_changes s)).trans ((h _).trans (turns_of_changes (conclude_changes _)))

theorem takeDueStep_turns {event : State → State} (h : ∀ s, Changes s (event s)) (s : State) :
    Turns s (takeDueStep event s) := by
  unfold takeDueStep
  split
  · exact .refl
  · exact turns_of_changes ((h s).trans (conclude_changes _))

/-- An answer that is made of turns. -/
abbrev AnswerTurns (s : State) (o : Host.Outcome State Fault Refusal) : Prop := ∀ t, o = .next t → Turns s t

theorem answerTurns_next {s t : State} (h : Turns s t) : AnswerTurns s (.next t) := by
  rintro _ ⟨rfl⟩
  exact h

theorem answerTurns_event {event : State → State} (h : ∀ s, Turns s (event s)) (s : State) :
    AnswerTurns s (.next (takeEvent event s)) := answerTurns_next (takeEvent_turns h s)

theorem answerTurns_changes {event : State → State} (h : ∀ s, Changes s (event s)) (s : State) :
    AnswerTurns s (.next (takeEvent event s)) := answerTurns_event (fun t => turns_of_changes (h t)) s

theorem answerTurns_dueStep {event : State → State} (h : ∀ s, Changes s (event s)) (s : State) :
    AnswerTurns s (.next (takeDueStep event s)) := answerTurns_next (takeDueStep_turns h s)

theorem answerTurns_request (serves : Request → Bool) {run : Request → State → State}
    (h : ∀ r s, s.dispatcher.state = .executing r → Turns s (run r s)) (s : State) :
    AnswerTurns s (.next (takeEvent (carryOut serves run) s)) := by
  refine answerTurns_event (fun t => ?_) s
  unfold carryOut
  split
  · next r executing =>
    split
    · exact h r t executing
    · exact .refl
  · exact .refl
  · exact .refl

/-- A request that touches other pieces of state. -/
theorem answerTurns_untracked {α : Type} (serves : Request → Bool) (verdict : Request → State → Verdict α)
    (effect : Request → α → State → State × List Byte) (h : ∀ r a t, trackedView (effect r a t).1 = trackedView t)
    (s : State) :
    AnswerTurns s (.next (takeEvent (carryOut serves fun r t => answer none r (verdict r t) (effect r) t) s)) :=
  answerTurns_request serves (fun r t executing => answer_turns_of_tracked none r _ _ t executing (h r)) s

theorem endReset_conclude_turns (cause : RestartCause) (pins : PinLevels) (s : State) :
    Turns s (conclude (endReset cause pins s)) :=
  (endReset_turns cause pins s).trans (turns_of_changes (conclude_changes _))

/-- Every command is made of turns. -/
theorem exec_turns (i : Instr) (s : State) : AnswerTurns s (exec i s) := by
  cases i with
  | powerOnReset pins => exact answerTurns_next (endReset_conclude_turns .power pins s)
  | pinReset => exact answerTurns_event takePinReset_turns s
  | pinResetEnd pins =>
    show AnswerTurns s (execPinResetEnd pins s)
    unfold execPinResetEnd
    split
    · exact answerTurns_next (endReset_conclude_turns .pin pins s)
    · exact answerTurns_changes (event := raiseResetPin) (fun t => changes_of_tracked rfl) s
  | lineBreak taken => exact answerTurns_event (takeBreak_turns taken) s
  | lineBreakEnd => exact answerTurns_changes (event := clearBreakMark) (fun t => changes_of_tracked rfl) s
  | rxCharacter c => exact answerTurns_changes (receiveCharacter_changes c) s
  | interCharacterTimeout => exact answerTurns_changes receiveTimeout_changes s
  | txCharacterBoundary pins => exact answerTurns_event (takeBoundary_turns pins) s
  | pacerExpiry => exact answerTurns_changes expirePacer_changes s
  | convInEdge edge => exact answerTurns_changes (takeConvIn_changes edge) s
  | conversionComplete level => exact answerTurns_changes (takeConversion_changes level) s
  | decimationOutput k => exact answerTurns_changes (takeOutput_changes k) s
  | postCountReached k => exact answerTurns_dueStep (reachPostCount_changes k) s
  | watchFire w =>
    exact answerTurns_dueStep (event := takeWatchFire w)
      (fun t => (settlePostCounts_changes t).trans (fireWatch_changes w _)) s
  | watchHoldoffEnd w =>
    exact answerTurns_dueStep (event := takeHoldoffEnd w)
      (fun t => (settlePostCounts_changes t).tail (.holdoffEnded w _)) s
  | trigInEdge edge => exact answerTurns_changes (takeTrigIn_changes edge) s
  | externalHoldoffExpiry => exact answerTurns_changes expireExternalHoldoff_changes s
  | trigOutPulseEnd => exact answerTurns_changes endTrigOutPulse_changes s
  | trigger position => exact answerTurns_changes (takeTriggerAt_changes position) s
  | alarmRequest position => exact answerTurns_changes (takeAlarmRequestAt_changes position) s
  | acknowledgementTimerExpiry id => exact answerTurns_changes (takeAlarmExpiry_changes id) s
  | identify => exact answerTurns_untracked _ _ _ (fun _ _ _ => rfl) s
  | getStatus => exact answerTurns_untracked _ _ _ (fun _ _ _ => rfl) s
  | readCounters => exact answerTurns_request _ (runReadCounters_turns none) s
  | readCountersClear => exact answerTurns_request _ (runReadCounters_turns none) s
  | setTime => exact answerTurns_request _ (runSetTime_turns none) s
  | restart => exact answerTurns_request _ (runRestart_turns none) s
  | configureScan => exact answerTurns_untracked _ _ _ (fun _ _ _ => rfl) s
  | configureStream => exact answerTurns_untracked _ _ _ (fun _ _ _ => rfl) s
  | loadCoefficients => exact answerTurns_untracked _ _ _ (fun _ _ _ => rfl) s
  | configureProfile => exact answerTurns_untracked _ _ _ (fun _ _ _ => rfl) s
  | configureWatch => exact answerTurns_request _ (runConfigureWatch_turns none) s
  | configureExternalTrigger => exact answerTurns_request _ (runConfigureExternal_turns none) s
  | configureAcquisition => exact answerTurns_untracked _ _ _ (fun _ _ _ => rfl) s
  | readConfiguration => exact answerTurns_untracked _ _ _ (fun _ _ _ => rfl) s
  | startAcquisition => exact answerTurns_request _ (runStart_turns none) s
  | stopGraceful => exact answerTurns_request _ (runStop_turns none) s
  | stopImmediate => exact answerTurns_request _ (runStop_turns none) s
  | convertOnce => exact answerTurns_request _ (runConvertOnce_turns none) s
  | forceCapture => exact answerTurns_request _ (runForceCapture_turns none) s
  | listRecords => exact answerTurns_untracked _ _ _ (fun _ _ _ => rfl) s
  | readRecord => exact answerTurns_request _ (runReadRecord_turns none) s
  | cancelReadout => exact answerTurns_request _ (runCancelReadout_turns none) s
  | releaseRecord => exact answerTurns_request _ (runReleaseRecord_turns none) s
  | releaseAllSealed => exact answerTurns_request _ (runReleaseAllSealed_turns none) s
  | acknowledgeAlarm => exact answerTurns_request _ (runAcknowledgeAlarm_turns none) s
  | unknownRequest =>
    exact answerTurns_request _ (run := runUnknown none) (fun r t executing => answerRefused_turns none r _ t executing) s

/-- Every step is made of turns. -/
theorem step_turns (s t : State) (h : step s = .next t) : Turns s t := by
  unfold step at h
  split at h
  · next c rest _ =>
    have dequeued : Turns s { s with pending := rest } := .single (.change (.untracked rfl))
    exact dequeued.trans (exec_turns c _ t h)
  · obtain rfl : passMicrosecond s = t := by injection h
    unfold passMicrosecond
    split
    · exact .refl
    · exact turns_of_changes ((settle_changes s).trans ((elapse_changes _ _).trans (conclude_changes _)))

/-- An invariant that every turn keeps is kept by every step. -/
theorem step_keeps_of_turn {P : State → Prop} (h : ∀ s t, Turn s t → P s → P t) {s t : State}
    (stepped : step s = .next t) (hs : P s) : P t := by
  have turns := step_turns s t stepped
  clear stepped
  induction turns with
  | refl => exact hs
  | tail _ turn ih => exact h _ _ turn ih

end Sys2Proof.Machine
end

section
namespace Sys2Proof.Machine

/-! ## The choice of a frame (R63, R171 to R173, R176) -/

/-- A chunk moves the readout on, or to its end (R63). -/
theorem buildChunk_readout {s t : State} {chunk : BulkChunk} (built : buildChunk s = some (chunk, t)) :
    ∃ readout, t = { s with readout := readout } ∧ (readout.state = .idle ↔ s.readout.state = .idle)
      ∧ readout.record = s.readout.record := by
  unfold buildChunk at built
  split at built
  · next active _ =>
    simp only [Option.some.injEq, Prod.mk.injEq] at built
    refine ⟨_, built.2.symm, ?_, rfl⟩
    rw [active]
    dsimp only
    split <;> simp
  · cases built

/-- With nothing pending and nothing suspended, a chunk is begun or the line is idle (R172). -/
theorem startChunk_cases (s : State) :
    (∃ chunk readout, (readout.state = .idle ↔ s.readout.state = .idle) ∧ readout.record = s.readout.record
      ∧ startChunk s = startFrame chunk.frame
          { s with readout := readout, transmit := { s.transmit with bulk := some chunk } })
    ∨ startChunk s = idleLine s := by
  unfold startChunk
  split
  · split
    · next chunk t built =>
      obtain ⟨readout, rfl, idle, record⟩ := buildChunk_readout built
      exact .inl ⟨chunk, readout, idle, record, rfl⟩
    · exact .inr rfl
  · exact .inr rfl

/-- The choice: the head of a queue, the frame on top of the stack, or on an empty stack a chunk or nothing. -/
theorem chooseFrame_cases (s : State) :
    (∃ f rest, s.transmit.urgent = f :: rest
      ∧ chooseFrame s = startFrame f { s with transmit := { s.transmit with urgent := rest } })
    ∨ (∃ f rest, s.transmit.normal = f :: rest
      ∧ chooseFrame s = startFrame f { s with transmit := { s.transmit with normal := rest } })
    ∨ (∃ t rest, s.transmit.suspended = t :: rest ∧ chooseFrame s = resumeTop t rest s)
    ∨ (s.transmit.urgent = [] ∧ s.transmit.normal = [] ∧ s.transmit.suspended = [] ∧ chooseFrame s = startChunk s) := by
  have lower : ∀ c, outranksStack c s = false → ∃ t rest, s.transmit.suspended = t :: rest ∧ startLower s = resumeTop t rest s := by
    intro c stays
    cases stack : s.transmit.suspended with
    | nil => simp [outranksStack, stack] at stays
    | cons t rest => exact ⟨t, rest, rfl, by simp only [startLower, stack]⟩
  cases urgent : s.transmit.urgent with
  | cons f rest =>
    cases outranks : outranksStack .urgent s with
    | true => exact .inl ⟨f, rest, rfl, by simp only [chooseFrame, urgent, outranks, if_true]⟩
    | false =>
      obtain ⟨t, below, stack, resumed⟩ := lower _ outranks
      exact .inr (.inr (.inl ⟨t, below, stack, by
        simp only [chooseFrame, urgent, outranks, Bool.false_eq_true, if_false, resumed]⟩))
  | nil =>
    cases normal : s.transmit.normal with
    | cons f rest =>
      cases outranks : outranksStack .normal s with
      | true => exact .inr (.inl ⟨f, rest, rfl, by simp only [chooseFrame, urgent, normal, outranks, if_true]⟩)
      | false =>
        obtain ⟨t, below, stack, resumed⟩ := lower _ outranks
        exact .inr (.inr (.inl ⟨t, below, stack, by
          simp only [chooseFrame, urgent, normal, outranks, Bool.false_eq_true, if_false, resumed]⟩))
    | nil =>
      cases stack : s.transmit.suspended with
      | cons t rest =>
        exact .inr (.inr (.inl ⟨t, rest, rfl, by simp only [chooseFrame, urgent, normal, startLower, stack]⟩))
      | nil => exact .inr (.inr (.inr ⟨rfl, rfl, rfl, by simp only [chooseFrame, urgent, normal, startLower, stack]⟩))

/-- What a choice leaves of the Transmit Unit and the readout. -/
structure Chosen (s : State) (transmit : TransmitUnit) (readout : Readout) : Prop where
  urgent : transmit.urgent.Sublist s.transmit.urgent
  normal : transmit.normal.Sublist s.transmit.normal
  rate : transmit.rate = s.transmit.rate
  tail : transmit.tail = s.transmit.tail
  idleLine : transmit.line = none → s.transmit.urgent = [] ∧ transmit.normal = [] ∧ transmit.suspended = []
  idle : readout.state = .idle ↔ s.readout.state = .idle
  record : readout.record = s.readout.record

theorem chooseFrame_outcome (s : State) :
    ∃ transmit readout, chooseFrame s = { s with transmit := transmit, readout := readout } ∧ Chosen s transmit readout := by
  obtain ⟨f, rest, urgent, e⟩ | ⟨f, rest, normal, e⟩ | ⟨t, rest, stack, e⟩ | ⟨urgent, normal, stack, e⟩ :=
    chooseFrame_cases s
  · exact ⟨_, _, e, by rw [urgent]; exact List.sublist_cons_self _ _, .refl _, rfl, rfl, nofun, .rfl, rfl⟩
  · exact ⟨_, _, e, .refl _, by rw [normal]; exact List.sublist_cons_self _ _, rfl, rfl, nofun, .rfl, rfl⟩
  · exact ⟨_, _, e, .refl _, .refl _, rfl, rfl, nofun, .rfl, rfl⟩
  · obtain ⟨chunk, readout, idle, record, started⟩ | idled := startChunk_cases s
    · exact ⟨_, readout, e.trans started, .refl _, .refl _, rfl, rfl, nofun, idle, record⟩
    · exact ⟨_, _, e.trans idled, .refl _, .refl _, rfl, rfl, fun _ => ⟨urgent, normal, stack⟩, .rfl, rfl⟩

end Sys2Proof.Machine
end

section
/-! PROOFS. The record table: its numbers, its size and the record being read out (R33, R46, R61). -/

namespace Sys2Proof.Machine

/-! ## What the soundness of the table rests on -/

/-- Of a record: its number and whether it is READING. -/
def tableKey (r : CaptureRecord) : Nat × Bool := (r.number, isReading r)

/-- The numbers of the READING records. -/
def readingNumbers (records : List CaptureRecord) : List Nat := (records.filter isReading).map fun r => r.number

theorem recordNumbers_of_keys (s : State) : recordNumbers s = (s.records.map tableKey).map Prod.fst := by
  simp [recordNumbers, tableKey, Function.comp_def]

theorem readingNumbers_of_keys (records : List CaptureRecord) :
    readingNumbers records = ((records.map tableKey).filter Prod.snd).map Prod.fst := by
  simp [readingNumbers, tableKey, List.filter_map, Function.comp_def]

/-- A table of the same numbers, with the same records READING and the same readout. -/
theorem recordTableSound_of_keys {s t : State} (keys : t.records.map tableKey = s.records.map tableKey)
    (next : t.nextRecord = s.nextRecord) (idle : t.readout.state = .idle ↔ s.readout.state = .idle)
    (record : t.readout.record = s.readout.record) (h : RecordTableSound s) : RecordTableSound t := by
  have numbers : recordNumbers t = recordNumbers s := by rw [recordNumbers_of_keys, keys, ← recordNumbers_of_keys]
  have length : t.records.length = s.records.length := by simpa using congrArg List.length keys
  obtain ⟨sound, reading⟩ := h
  refine ⟨by simpa only [RecordNumbersSound, numbers, length, next] using sound, ?_⟩
  have same : readingNumbers t.records = readingNumbers s.records := by
    rw [readingNumbers_of_keys, keys, ← readingNumbers_of_keys]
  exact same.trans (reading.trans (by simp only [idle, record]))

/-- A change of one record that keeps its number and whether it is READING. -/
theorem tableKeys_changeRecord (n : Nat) (f : CaptureRecord → CaptureRecord) (s : State)
    (h : ∀ r, findRecord n s = some r → tableKey (f r) = tableKey r) :
    (changeRecord n f s).records.map tableKey = s.records.map tableKey := by
  cases found : findRecord n s with
  | none =>
    have absent := changeFirst_none (fun r => r.number == n) f s.records
      (by simpa using List.find?_eq_none.mp found)
    exact congrArg (List.map tableKey) absent
  | some r =>
    obtain ⟨before, after, records, -, changed⟩ := changeFirst_split _ s.records r found
    rw [changeRecord, changed f, records]
    simp [h r found]

/-! ## Removals and openings (R31 to R33, R47, R49) -/

theorem recordNumbersSound_removed (n : Nat) {s : State} (h : RecordNumbersSound s) :
    RecordNumbersSound (removeRecord n s) := by
  obtain ⟨length, nodup, range, next⟩ := h
  exact ⟨(List.length_filter_le _ _).trans length, nodup.sublist (List.filter_sublist.map _),
    fun m hm => range m ((List.filter_sublist.map _).subset hm), next⟩

/-- A record that is not READING leaves the table. -/
theorem recordTableSound_removed {n : Nat} {s : State}
    (unread : n ∈ recordNumbers s → s.readout.state = .idle ∨ ∃ r ∈ s.records, r.number = n ∧ r.state = .closed)
    (h : RecordTableSound s) : RecordTableSound (removeRecord n s) := by
  obtain ⟨sound, reading⟩ := h
  refine ⟨recordNumbersSound_removed n sound, ?_⟩
  have others : readingNumbers (removeRecord n s).records = readingNumbers s.records := by
    simp only [readingNumbers, removeRecord_eq, List.filter_filter]
    congr 1
    refine List.filter_congr fun x hx => ?_
    by_cases number : x.number = n
    · have not_reading : isReading x = false := by
        rcases unread (number ▸ List.mem_map_of_mem hx) with idle | ⟨r, hr, rfl, closed⟩
        · have none : s.records.filter isReading = [] := by
            rw [ReadingMatchesReadout, if_pos idle] at reading
            exact List.map_eq_nil_iff.mp reading
          simpa using List.filter_eq_nil_iff.mp none x hx
        · have same : x = r := by
            have found := findRecord_of_mem sound.2.1 hx
            rw [number, findRecord_of_mem sound.2.1 hr] at found
            exact (Option.some.inj found).symm
          rw [same, isReading, closed]
          rfl
      rw [not_reading, Bool.false_and]
    · simp [number]
  exact others.trans reading

/-- A new record takes a number that no record has (R33). -/
theorem recordTableSound_opened (t : Trigger) {s : State} (room : s.records.length < recordTotal)
    (h : RecordTableSound s) : RecordTableSound (openRecordFor t s).1 := by
  obtain ⟨record, _, _, _, opened, number, -, state, -⟩ := openRecordFor_shape t s
  obtain ⟨sound, reading⟩ := h
  obtain ⟨low, high, fresh⟩ := freshNumber_sound s sound
  obtain ⟨-, nodup, range, -, -⟩ := sound
  have numbers : recordNumbers (openRecordFor t s).1 = recordNumbers s ++ [freshNumber s] := by
    simp [opened, recordNumbers, number]
  rw [RecordTableSound, RecordNumbersSound, numbers]
  rw [opened]
  refine ⟨⟨by simpa using room, ?_, ?_, ?_⟩, ?_⟩
  · rw [List.nodup_append]
    exact ⟨nodup, List.nodup_singleton _, fun a ha b hb e => fresh (List.mem_singleton.mp hb ▸ e ▸ ha)⟩
  · intro m hm
    rcases List.mem_append.mp hm with hm | hm
    · exact range m hm
    · rw [List.mem_singleton.mp hm]
      exact ⟨low, high⟩
  · simp only [numberAfter]
    split <;> omega
  · have unread : isReading record = false := by simp [isReading, state]
    have same : readingNumbers (s.records ++ [record]) = readingNumbers s.records := by
      simp [readingNumbers, List.filter_append, unread]
    exact same.trans reading

/-- A record gives up its place to a new one (R31). -/
theorem recordTableSound_replaced (t : Trigger) {r : CaptureRecord} {s : State} (member : r ∈ s.records)
    (closed : r.state = .closed) (h : RecordTableSound s) :
    RecordTableSound (openRecordFor t (removeRecord r.number s)).1 := by
  refine recordTableSound_opened t ?_ (recordTableSound_removed (fun _ => .inr ⟨r, member, rfl, closed⟩) h)
  refine lt_of_lt_of_le ?_ h.1.1
  exact List.length_filter_lt_length_iff_exists.mpr ⟨r, member, by simp⟩

/-! ## Readouts (R61 to R67) -/

/-- The record that a readout begins is READING (R62). -/
theorem recordTableSound_begun (tag : Byte) {r : CaptureRecord} (offset : Nat) {s : State}
    (idle : s.readout.state = .idle) (found : findRecord r.number s = some r) (h : RecordTableSound s) :
    RecordTableSound (beginReadout tag r offset s) := by
  obtain ⟨before, after, records, -, changed⟩ := changeFirst_split _ s.records r found
  obtain ⟨sound, reading⟩ := h
  have none : s.records.filter isReading = [] := by
    rw [ReadingMatchesReadout, if_pos idle] at reading
    exact List.map_eq_nil_iff.mp reading
  rw [records, List.filter_append, List.append_eq_nil_iff] at none
  obtain ⟨noneBefore, none⟩ := none
  have noneAfter : after.filter isReading = [] := by
    rw [List.filter_cons] at none
    split at none
    · cases none
    · exact none
  have table : (beginReadout tag r offset s).records = before ++ { r with state := .reading } :: after := changed _
  have numbers : recordNumbers (beginReadout tag r offset s) = recordNumbers s := changeFirst_map _ _ _ _ fun _ _ => rfl
  have length : (beginReadout tag r offset s).records.length = s.records.length := changeFirst_length _ _ _
  refine ⟨by rw [RecordNumbersSound, numbers, length]; exact sound, ?_⟩
  rw [ReadingMatchesReadout, table, List.filter_append, noneBefore, List.filter_cons_of_pos rfl, noneAfter]
  rfl

/-- The record of a readout that ends is SEALED, and none is READING (R64, R65, R67). -/
theorem recordTableSound_ended {s : State} (h : RecordTableSound s) : RecordTableSound (releaseReadout s) := by
  obtain ⟨sound, reading⟩ := h
  have numbers : recordNumbers (releaseReadout s) = recordNumbers s := changeFirst_map _ _ _ _ fun _ _ => rfl
  have length : (releaseReadout s).records.length = s.records.length := changeFirst_length _ _ _
  refine ⟨by rw [RecordNumbersSound, numbers, length]; exact sound, ?_⟩
  have none : (releaseReadout s).records.filter isReading = [] := by
    refine List.filter_eq_nil_iff.mpr fun x hx still => ?_
    have idle_or : ∀ y ∈ s.records, isReading y = true → y.number = s.readout.record := fun y hy read =>
      (readout_of_reading reading hy (of_decide_eq_true read)).symm
    cases found : findRecord s.readout.record s with
    | none =>
      have same : (releaseReadout s).records = s.records :=
        changeFirst_none _ _ _ (by simpa using List.find?_eq_none.mp found)
      rw [same] at hx
      exact absurd (idle_or x hx still) (by simpa using List.find?_eq_none.mp found x hx)
    | some r =>
      obtain ⟨before, after, records, -, changed⟩ := changeFirst_split _ s.records r found
      have number := findRecord_number found
      have nodup := sound.2.1
      rw [recordNumbers, records] at nodup
      obtain ⟨othersBefore, othersAfter⟩ := numbers_of_split nodup
      have table : (releaseReadout s).records = before ++ { r with state := .closed } :: after := changed _
      rw [table, List.mem_append, List.mem_cons] at hx
      rcases hx with hx | rfl | hx
      · exact othersBefore x hx ((idle_or x (by simp [records, hx]) still).trans number.symm)
      · cases still
      · exact othersAfter x hx ((idle_or x (by simp [records, hx]) still).trans number.symm)
  rw [ReadingMatchesReadout, none]
  rfl

/-! ## Every turn -/

theorem recordTableSound_of_tracked {s t : State} (h : trackedView t = trackedView s) (hs : RecordTableSound s) :
    RecordTableSound t := by
  have records : t.records = s.records := congrArg TrackedView.records h
  have readout : t.readout = s.readout := congrArg TrackedView.readout h
  exact recordTableSound_of_keys (by rw [records]) (congrArg TrackedView.nextRecord h) (by rw [readout])
    (by rw [readout]) hs

theorem change_recordTableSound {s t : State} (h : Change s t) (hs : RecordTableSound s) : RecordTableSound t := by
  cases h with
  | untracked same => exact recordTableSound_of_tracked same hs
  | recordChanged n f _ number state =>
    refine recordTableSound_of_keys (tableKeys_changeRecord n f s fun r _ => ?_) rfl .rfl rfl hs
    rw [tableKey, number, isReading, state]
    rfl
  | recordOpened t _ room => exact recordTableSound_opened t room hs
  | recordReplaced t r _ member closed => exact recordTableSound_replaced t member closed hs
  | recordClosed r _ found opened =>
    refine recordTableSound_of_keys (tableKeys_changeRecord r.number _ s fun x hx => ?_) rfl .rfl rfl hs
    obtain rfl : r = x := Option.some.inj (found.symm.trans hx)
    simp [tableKey, isReading, opened]
  | recordRemoved n _ unread => exact recordTableSound_removed unread hs
  | readoutBegun tag r offset _ idle found => exact recordTableSound_begun tag offset idle found hs
  | readoutEnded => exact recordTableSound_ended hs
  | holdoffEnded w => unfold endHoldoff; split <;> exact hs
  | externalFired =>
    obtain ⟨_, _, sent⟩ := sendFiring_shape s.external.definition.profile s.external.definition.alarm .external
      s.clock.timebase none s
    rw [fireExternal, sent]
    exact hs
  | alarmListed r _ room => rw [takeAlarmRequest, if_pos room]; exact hs
  | alarmMoved => obtain e | ⟨_, -, -, e⟩ := moveOldestPending_cases s <;> rw [e] <;> exact hs
  | requestTaken =>
    unfold takeRequest
    split
    · split <;> exact hs
    · exact hs
  | frameChosen =>
    obtain ⟨_, _, chosen, outcome⟩ := chooseFrame_outcome s
    rw [chosen]
    exact recordTableSound_of_keys (s := s) rfl rfl outcome.idle outcome.record hs
  | _ => exact hs

theorem turn_recordTableSound (s t : State) (h : Turn s t) (hs : RecordTableSound s) : RecordTableSound t := by
  cases h with
  | change h => exact change_recordTableSound h hs
  | replied => exact hs
  | reset rate fresh =>
    exact recordTableSound_of_tracked (s := { State.reset with transmit := resetTransmit rate }) fresh
      recordTableSound_reset

/-- Settles O55: a new record takes a free number and a place, and READING follows the readout in every change. -/
theorem recordTableStaysSound : Obligations.RecordTableStaysSound :=
  fun _ _ hs stepped => step_keeps_of_turn turn_recordTableSound stepped hs

end Sys2Proof.Machine
end

section
/-! PROOFS. The capacities: the alarm list, the queues, the counters and the retrigger lists. -/

namespace Sys2Proof.Machine

/-! ## Alarm ids (R135) -/

theorem mem_idsFrom {count : Nat} {next id : Byte} :
    id ∈ idsFrom count next ↔ ∃ i < count, id = next + BitVec.ofNat 8 i := by
  induction count generalizing next with
  | zero => simp [idsFrom]
  | succ count ih =>
    rw [idsFrom, List.mem_cons, ih]
    constructor
    · rintro (rfl | ⟨i, hi, rfl⟩)
      · exact ⟨0, by omega, by simp⟩
      · refine ⟨i + 1, by omega, ?_⟩
        rw [BitVec.ofNat_add, BitVec.add_comm (BitVec.ofNat 8 i), BitVec.add_assoc]
        rfl
    · rintro ⟨i, hi, rfl⟩
      cases i with
      | zero => exact .inl (by simp)
      | succ i =>
        refine .inr ⟨i, by omega, ?_⟩
        rw [BitVec.ofNat_add, BitVec.add_comm (BitVec.ofNat 8 i), BitVec.add_assoc]
        rfl

/-- The ids tried are distinct until they come around (R135: 255 is followed by 0). -/
theorem idsFrom_nodup {count : Nat} (next : Byte) (h : count ≤ 256) : (idsFrom count next).Nodup := by
  induction count generalizing next with
  | zero => exact List.nodup_nil
  | succ count ih =>
    refine List.nodup_cons.mpr ⟨fun again => ?_, ih _ (by omega)⟩
    obtain ⟨i, hi, e⟩ := mem_idsFrom.mp again
    have := congrArg BitVec.toNat e
    simp only [BitVec.toNat_add, BitVec.toNat_ofNat, show (1 : Byte).toNat = 1 from rfl] at this
    have := next.isLt
    omega

theorem idsFrom_length (count : Nat) (next : Byte) : (idsFrom count next).length = count := by
  induction count generalizing next with
  | zero => rfl
  | succ count ih => simp [idsFrom, ih]

/-- With a place free in the list, one of the 9 ids tried is held by no entry (R135). -/
theorem freshAlarmId_fresh {s : State} (room : s.alarms.length < alarmTotal) :
    freshAlarmId s ∉ s.alarms.map fun e => e.id := by
  cases found : (idsFrom (alarmTotal + 1) s.nextAlarm).find? fun id => !idInUse s.alarms id with
  | none =>
    have taken : idsFrom (alarmTotal + 1) s.nextAlarm ⊆ s.alarms.map fun e => e.id := fun id hid => by
      simpa [idInUse] using List.find?_eq_none.mp found id hid
    have fits := ((idsFrom_nodup s.nextAlarm (by decide)).subperm taken).length_le
    rw [idsFrom_length, List.length_map] at fits
    omega
  | some id =>
    have free := List.find?_some found
    rw [freshAlarmId, found]
    simpa [idInUse] using free

/-! ## The alarm list (R134 to R143) -/

/-- A change of every entry that keeps what the soundness of the list rests on. -/
theorem alarmListSound_map {f : AlarmEntry → AlarmEntry} {s t : State} (alarms : t.alarms = s.alarms.map f)
    (drops : t.dropCount = s.dropCount) (id : ∀ e, (f e).id = e.id) (sends : ∀ e, SendsBounded e → SendsBounded (f e))
    (h : AlarmListSound s) : AlarmListSound t := by
  obtain ⟨length, nodup, bounded, dropped⟩ := h
  refine ⟨by simpa [alarms] using length, ?_, fun e he => ?_, drops ▸ dropped⟩
  · simpa only [alarms, List.map_map, Function.comp_def, id] using nodup
  · rw [alarms] at he
    obtain ⟨x, hx, rfl⟩ := List.mem_map.mp he
    exact sends x (bounded x hx)

/-- A change of the entry that a search finds. -/
theorem alarmListSound_changed {picks : AlarmEntry → Bool} {f : AlarmEntry → AlarmEntry} {s t : State}
    (alarms : t.alarms = changeFirst picks f s.alarms) (drops : t.dropCount ≤ dropMaximum) (id : ∀ e, (f e).id = e.id)
    (sends : ∀ e, s.alarms.find? picks = some e → SendsBounded e → SendsBounded (f e)) (h : AlarmListSound s) :
    AlarmListSound t := by
  obtain ⟨length, nodup, bounded, -⟩ := h
  refine ⟨by rw [alarms, changeFirst_length]; exact length, ?_, ?_, drops⟩
  · rw [alarms, changeFirst_map _ _ _ _ fun e _ => id e]
    exact nodup
  rw [alarms]
  cases found : s.alarms.find? picks with
  | none => rw [changeFirst_none _ _ _ (by simpa using found)]; exact bounded
  | some e =>
    obtain ⟨before, after, split, -, changed⟩ := changeFirst_split _ _ _ found
    rw [changed]
    simp only [split, List.mem_append, List.mem_cons] at bounded ⊢
    rintro x (hx | rfl | hx)
    · exact bounded x (.inl hx)
    · exact sends e found (bounded e (.inr (.inl rfl)))
    · exact bounded x (.inr (.inr hx))

theorem sendsBounded_ageAlarm (units : Nat) (e : AlarmEntry) (h : SendsBounded e) : SendsBounded (ageAlarm units e) := by
  obtain ⟨most, waiting⟩ := h
  refine ⟨most, fun sent => waiting ?_⟩
  revert sent
  unfold ageAlarm isWaiting
  cases e.state <;> simp

theorem sendsBounded_requeueAlarm (e : AlarmEntry) (h : SendsBounded e) : SendsBounded (requeueAlarm e) := by
  obtain ⟨most, waiting⟩ := h
  refine ⟨most, fun sent => waiting ?_⟩
  revert sent
  unfold requeueAlarm isWaiting
  cases e.state <;> simp

/-- A PENDING entry that becomes QUEUED is still to be sent (R137). -/
theorem sendsBounded_queued {e : AlarmEntry} (pending : isPending e = true) (h : SendsBounded e) :
    SendsBounded { e with state := .queued } := by
  have unsent : isWaiting e = false := by rw [isWaiting, of_decide_eq_true pending]
  exact ⟨h.1, fun _ => h.2 unsent⟩

/-- An entry is sent a third time at most: a QUEUED one has been sent at most twice (R138, R139). -/
theorem sendsBounded_sent (e : AlarmEntry) (h : SendsBounded e) :
    SendsBounded (if e.state = .queued then
      { e with sendCount := e.sendCount + 1, state := .waiting acknowledgementTime } else e) := by
  split
  · next queued =>
    have unsent : isWaiting e = false := by rw [isWaiting, queued]
    exact ⟨h.2 unsent, fun waiting => nomatch waiting⟩
  · exact h

theorem alarmListSound_listed {r : AlarmRequest} {s : State} (room : s.alarms.length < alarmTotal)
    (h : AlarmListSound s) : AlarmListSound (takeAlarmRequest r s) := by
  obtain ⟨-, nodup, bounded, drops⟩ := h
  rw [takeAlarmRequest, if_pos room]
  refine ⟨by simpa using room, ?_, fun e he => ?_, drops⟩
  · rw [List.map_append, List.nodup_append]
    refine ⟨nodup, List.nodup_singleton _, fun a ha b hb e => freshAlarmId_fresh room ?_⟩
    rwa [e, List.mem_singleton.mp hb] at ha
  · rcases List.mem_append.mp he with he | he
    · exact bounded e he
    · rw [List.mem_singleton.mp he]
      exact ⟨Nat.zero_le _, fun _ => Nat.zero_lt_succ 2⟩

theorem alarmListSound_removed (id : Byte) {s : State} (h : AlarmListSound s) : AlarmListSound (removeAlarm id s) := by
  obtain ⟨length, nodup, bounded, drops⟩ := h
  exact ⟨(List.length_filter_le _ _).trans length, nodup.sublist (List.filter_sublist.map _),
    fun e he => bounded e (List.mem_of_mem_filter he), drops⟩

theorem change_alarmListSound {s t : State} (h : Change s t) (hs : AlarmListSound s) : AlarmListSound t := by
  cases h with
  | untracked same =>
    have alarms : t.alarms = s.alarms := congrArg TrackedView.alarms same
    have drops : t.dropCount = s.dropCount := congrArg TrackedView.dropCount same
    rw [AlarmListSound, alarms, drops]
    exact hs
  | timePasses units =>
    exact alarmListSound_map (f := ageAlarm units) rfl rfl (fun _ => rfl) (sendsBounded_ageAlarm units) hs
  | alarmListed r _ room => exact alarmListSound_listed room hs
  | alarmsDropped n =>
    obtain ⟨length, nodup, bounded, -⟩ := hs
    exact ⟨length, nodup, bounded, Nat.min_le_left _ _⟩
  | alarmMoved =>
    obtain e | ⟨_, -, -, e⟩ := moveOldestPending_cases s
    · rw [e]; exact hs
    · rw [e]
      exact alarmListSound_changed (picks := isPending) (f := fun x => { x with state := .queued }) rfl (Nat.zero_le _)
        (fun _ => rfl) (fun x found => sendsBounded_queued (List.find?_some found)) hs
  | alarmSent id =>
    exact alarmListSound_changed rfl hs.2.2.2 (fun e => by split <;> rfl)
      (fun e _ => sendsBounded_sent e) hs
  | alarmResent id e _ found few =>
    refine alarmListSound_changed rfl hs.2.2.2 (fun _ => rfl) (fun x hx bounded => ?_) hs
    obtain rfl : e = x := Option.some.inj (found.symm.trans hx)
    exact ⟨bounded.1, fun _ => few⟩
  | alarmsRequeued => exact alarmListSound_map (f := requeueAlarm) rfl rfl (fun _ => rfl) sendsBounded_requeueAlarm hs
  | alarmRemoved id => exact alarmListSound_removed id hs
  | recordOpened t => rw [openRecordFor_eq]; exact hs
  | recordReplaced t r => rw [openRecordFor_eq]; exact hs
  | holdoffEnded w => unfold endHoldoff; split <;> exact hs
  | externalFired =>
    obtain ⟨_, _, sent⟩ := sendFiring_shape s.external.definition.profile s.external.definition.alarm .external
      s.clock.timebase none s
    rw [fireExternal, sent]
    exact hs
  | requestTaken =>
    unfold takeRequest
    split
    · split <;> exact hs
    · exact hs
  | frameChosen =>
    obtain ⟨_, _, chosen, -⟩ := chooseFrame_outcome s
    rw [chosen]
    exact hs
  | _ => exact hs

/-! ## The queues (R165, R171, R183, R184) -/

/-- Queues that are no longer, with the same Dispatcher. -/
theorem queuesBounded_of_le {s t : State} (inbound : t.inbound.length ≤ s.inbound.length)
    (urgent : t.transmit.urgent.length ≤ s.transmit.urgent.length)
    (normal : t.transmit.normal.length ≤ s.transmit.normal.length) (state : t.dispatcher.state = s.dispatcher.state)
    (behind : t.dispatcher.behind ≤ s.dispatcher.behind) (h : QueuesBounded s) : QueuesBounded t := by
  obtain ⟨fewRequests, fewUrgent, fewNormal, place, fewBehind⟩ := h
  have same : isExecuting t = isExecuting s := by rw [isExecuting, state]; rfl
  exact ⟨inbound.trans fewRequests, urgent.trans fewUrgent, normal.trans fewNormal,
    fun executing => normal.trans_lt (place (same ▸ executing)), behind.trans_lt fewBehind⟩

/-- A request is taken when its reply finds a place, and leaves at most 3 behind it (R183). -/
theorem queuesBounded_taken {s : State} (h : QueuesBounded s) : QueuesBounded (takeRequest s) := by
  unfold takeRequest
  split
  · next r rest _ waiting =>
    split
    · next place =>
      obtain ⟨fewRequests, fewUrgent, fewNormal, -, -⟩ := h
      rw [waiting, List.length_cons] at fewRequests
      exact ⟨(Nat.le_succ _).trans fewRequests, fewUrgent, fewNormal, fun _ => place, fewRequests⟩
    · exact h
  · exact h

theorem change_queuesBounded {s t : State} (h : Change s t) (hs : QueuesBounded s) : QueuesBounded t := by
  cases h with
  | untracked same =>
    have inbound : t.inbound = s.inbound := congrArg TrackedView.inbound same
    have transmit : t.transmit = s.transmit := congrArg TrackedView.transmit same
    have dispatcher : t.dispatcher = s.dispatcher := congrArg TrackedView.dispatcher same
    rw [QueuesBounded, isExecuting, inbound, transmit, dispatcher]
    exact hs
  | noticeQueued n _ fits =>
    obtain ⟨fewRequests, fewUrgent, -, -, fewBehind⟩ := hs
    have room : s.transmit.normal.length + noticeReserve < normalTotal := of_decide_eq_true fits
    have more : (s.transmit.normal ++ [noticeFrame n]).length < normalTotal := by
      simp only [noticeReserve, normalTotal, List.length_append, List.length_singleton] at room ⊢
      omega
    exact ⟨fewRequests, fewUrgent, more.le, fun _ => more, fewBehind⟩
  | alarmMoved =>
    obtain e | ⟨_, -, room, e⟩ := moveOldestPending_cases s
    · rw [e]; exact hs
    · obtain ⟨fewRequests, -, fewNormal, place, fewBehind⟩ := hs
      rw [e]
      exact ⟨fewRequests, by simpa using room, fewNormal, place, fewBehind⟩
  | alarmListed r _ room => rw [takeAlarmRequest, if_pos room]; exact hs
  | requestQueued r _ room =>
    obtain ⟨-, others⟩ := hs
    exact ⟨by simpa using room, others⟩
  | requestTaken => exact queuesBounded_taken hs
  | requestsDiscarded =>
    exact queuesBounded_of_le (s := s) (Nat.zero_le _) le_rfl le_rfl rfl (Nat.zero_le _) hs
  | frameChosen =>
    obtain ⟨_, _, chosen, outcome⟩ := chooseFrame_outcome s
    rw [chosen]
    exact queuesBounded_of_le (s := s) le_rfl outcome.urgent.length_le outcome.normal.length_le rfl le_rfl hs
  | transmitted tr _ depleted =>
    exact queuesBounded_of_le (s := s) le_rfl depleted.urgent.length_le depleted.normal.length_le rfl le_rfl hs
  | recordOpened t => rw [openRecordFor_eq]; exact hs
  | recordReplaced t r => rw [openRecordFor_eq]; exact hs
  | holdoffEnded w => unfold endHoldoff; split <;> exact hs
  | externalFired =>
    obtain ⟨_, _, sent⟩ := sendFiring_shape s.external.definition.profile s.external.definition.alarm .external
      s.clock.timebase none s
    rw [fireExternal, sent]
    exact hs
  | _ => exact hs

/-! ## Counters, retrigger lists and the part of a microsecond (R27, R148; log 5) -/

/-- A change of one record that keeps its list within 4 entries. -/
theorem countsBounded_changed {n : Nat} {f : CaptureRecord → CaptureRecord} {s t : State}
    (records : t.records = changeFirst (fun r => r.number == n) f s.records) (counters : t.counters = s.counters)
    (clock : t.clock = s.clock)
    (retriggers : ∀ r, r.retriggers.length ≤ retriggerTotal → (f r).retriggers.length ≤ retriggerTotal)
    (h : CountsBounded s) : CountsBounded t := by
  obtain ⟨counted, lists, phase⟩ := h
  refine ⟨counters ▸ counted, fun r hr => ?_, clock ▸ phase⟩
  rw [records] at hr
  rcases mem_changeFirst _ _ _ _ hr with hr | ⟨x, hx, -, rfl⟩
  · exact lists r hr
  · exact retriggers x (lists x hx)

theorem countsBounded_opened (t : Trigger) {s : State} (h : CountsBounded s) : CountsBounded (openRecordFor t s).1 := by
  obtain ⟨record, _, _, _, opened, -, -, -, none⟩ := openRecordFor_shape t s
  obtain ⟨counted, lists, phase⟩ := h
  rw [opened]
  refine ⟨counted, fun r hr => ?_, phase⟩
  rcases List.mem_append.mp hr with hr | hr
  · exact lists r hr
  · rw [List.mem_singleton.mp hr, none]
    exact Nat.zero_le _

theorem countsBounded_removed (n : Nat) {s : State} (h : CountsBounded s) : CountsBounded (removeRecord n s) := by
  obtain ⟨counted, lists, phase⟩ := h
  exact ⟨counted, fun r hr => lists r (List.mem_of_mem_filter hr), phase⟩

theorem change_countsBounded {s t : State} (h : Change s t) (hs : CountsBounded s) : CountsBounded t := by
  cases h with
  | untracked same =>
    have counters : t.counters = s.counters := congrArg TrackedView.counters same
    have records : t.records = s.records := congrArg TrackedView.records same
    have clock : t.clock = s.clock := congrArg TrackedView.clock same
    rw [CountsBounded, counters, records, clock]
    exact hs
  | timePasses units =>
    obtain ⟨counted, lists, -⟩ := hs
    exact ⟨counted, lists, Nat.mod_lt _ (by decide)⟩
  | counters cs _ bounded =>
    obtain ⟨counted, lists, phase⟩ := hs
    exact ⟨fun i => bounded i (counted i), lists, phase⟩
  | recordChanged n f _ _ _ retriggers => exact countsBounded_changed (s := s) rfl rfl rfl retriggers hs
  | recordClosed => exact countsBounded_changed (s := s) rfl rfl rfl (fun _ h => h) hs
  | readoutBegun => exact countsBounded_changed (s := s) rfl rfl rfl (fun _ h => h) hs
  | readoutEnded => exact countsBounded_changed (s := s) rfl rfl rfl (fun _ h => h) hs
  | recordOpened t => exact countsBounded_opened t hs
  | recordReplaced t r => exact countsBounded_opened t (countsBounded_removed r.number hs)
  | recordRemoved n => exact countsBounded_removed n hs
  | holdoffEnded w => unfold endHoldoff; split <;> exact hs
  | externalFired =>
    obtain ⟨_, _, sent⟩ := sendFiring_shape s.external.definition.profile s.external.definition.alarm .external
      s.clock.timebase none s
    rw [fireExternal, sent]
    exact hs
  | alarmListed r _ room => rw [takeAlarmRequest, if_pos room]; exact hs
  | alarmMoved => obtain e | ⟨_, -, -, e⟩ := moveOldestPending_cases s <;> rw [e] <;> exact hs
  | requestTaken =>
    unfold takeRequest
    split
    · split <;> exact hs
    · exact hs
  | frameChosen =>
    obtain ⟨_, _, chosen, -⟩ := chooseFrame_outcome s
    rw [chosen]
    exact hs
  | _ => exact hs

/-! ## Every turn -/

/-- Every capacity at once. -/
def WithinCapacities (s : State) : Prop := AlarmListSound s ∧ QueuesBounded s ∧ CountsBounded s

theorem withinCapacities_reset (rate : Fin 4) :
    WithinCapacities { State.reset with transmit := resetTransmit rate } :=
  ⟨alarmListSound_reset, queuesBounded_reset, countsBounded_reset⟩

theorem change_withinCapacities {s t : State} (h : Change s t) (hs : WithinCapacities s) : WithinCapacities t :=
  ⟨change_alarmListSound h hs.1, change_queuesBounded h hs.2.1, change_countsBounded h hs.2.2⟩

/-- The place that a reply takes is the one that its request was taken with (R183, R184). -/
theorem queuesBounded_replied {f : Frame} {d : Dispatcher} {r : Request} {s : State}
    (executing : s.dispatcher.state = .executing r) (done : ∀ q, d.state ≠ .executing q)
    (behind : d.behind = s.dispatcher.behind) (h : QueuesBounded s) :
    QueuesBounded { s with transmit := { s.transmit with normal := s.transmit.normal ++ [f] }, dispatcher := d } := by
  obtain ⟨fewRequests, fewUrgent, -, place, fewBehind⟩ := h
  have room : s.transmit.normal.length < normalTotal := place (by rw [isExecuting, executing])
  refine ⟨fewRequests, fewUrgent, by simpa using room, fun again => ?_, behind ▸ fewBehind⟩
  unfold isExecuting at again
  split at again
  · next q e => exact absurd e (done q)
  · cases again
  · cases again

theorem turn_withinCapacities (s t : State) (h : Turn s t) (hs : WithinCapacities s) : WithinCapacities t := by
  cases h with
  | change h => exact change_withinCapacities h hs
  | replied f d r _ executing _ done behind =>
    obtain ⟨alarms, queues, counts⟩ := hs
    exact ⟨alarms, queuesBounded_replied executing done behind queues, counts⟩
  | reset rate fresh => exact change_withinCapacities (.untracked fresh) (withinCapacities_reset rate)

/-- Settles O58: every change stays within each capacity, and a reply takes the place that its request waited for. -/
theorem capacitiesAreKept : Obligations.CapacitiesAreKept :=
  fun _ _ alarms queues counts stepped => step_keeps_of_turn turn_withinCapacities stepped ⟨alarms, queues, counts⟩

end Sys2Proof.Machine
end

section
/-! PROOFS. What follows at the end of every event, and what is taken before one. -/

namespace Sys2Proof.Machine

/-! ## The moves of the Alarm Unit (R136, R137) -/

/-- No entry of the list is PENDING. -/
def NonePending (alarms : List AlarmEntry) : Prop := ∀ e ∈ alarms, e.state ≠ .pending

theorem isPending_eq_false {e : AlarmEntry} : isPending e = false ↔ e.state ≠ .pending := decide_eq_false_iff_not

theorem find?_isPending_eq_none {alarms : List AlarmEntry} : alarms.find? isPending = none ↔ NonePending alarms := by
  simp [NonePending, isPending]

theorem moveOldestPending_moves {s : State} {before after : List AlarmEntry} {e : AlarmEntry}
    (alarms : s.alarms = before ++ e :: after) (pending : e.state = .pending) (oldest : NonePending before)
    (room : s.transmit.urgent.length < urgentTotal) :
    moveOldestPending s =
      { s with
        alarms := before ++ { e with state := .queued } :: after
        dropCount := 0
        transmit := { s.transmit with urgent := s.transmit.urgent ++ [alarmReportFrame e s.dropCount] } } := by
  have picked : isPending e = true := decide_eq_true pending
  have passed : ∀ x ∈ before, isPending x = false := fun x hx => isPending_eq_false.mpr (oldest x hx)
  have found : s.alarms.find? isPending = some e := by
    rw [alarms, List.find?_append, find?_isPending_eq_none.mpr oldest]
    simp [picked]
  rw [moveOldestPending, if_pos room, found]
  dsimp only
  rw [alarms, changeFirst_append _ passed picked]

theorem moveOldestPending_stays {s : State} (h : urgentTotal ≤ s.transmit.urgent.length ∨ NonePending s.alarms) :
    moveOldestPending s = s := by
  unfold moveOldestPending
  split
  · next room =>
    rw [find?_isPending_eq_none.mpr (h.resolve_left (Nat.not_le.mpr room))]
  · rfl

/-- The entries but for their states, which the moves leave alone. -/
def stateless (e : AlarmEntry) : AlarmEntry := { e with state := .pending }

/-- One move: a report joins the URGENT queue, or the queue is full or no entry is PENDING. -/
theorem moveOldestPending_outcome (s : State) :
    (urgentTotal ≤ s.transmit.urgent.length ∨ NonePending s.alarms)
    ∨ ∃ alarms report, moveOldestPending s
        = { s with alarms := alarms, dropCount := 0,
                   transmit := { s.transmit with urgent := s.transmit.urgent ++ [report] } }
      ∧ alarms.map stateless = s.alarms.map stateless := by
  by_cases room : s.transmit.urgent.length < urgentTotal
  · cases found : s.alarms.find? isPending with
    | none => exact .inl (.inr (find?_isPending_eq_none.mp found))
    | some e =>
      refine .inr ⟨changeFirst isPending (fun x => { x with state := .queued }) s.alarms,
        alarmReportFrame e s.dropCount, ?_, changeFirst_map _ _ stateless _ fun _ _ => rfl⟩
      rw [moveOldestPending, if_pos room, found]
  · exact .inl (.inl (Nat.not_lt.mp room))

/-- Some moves in a row: reports join the URGENT queue, and only a full queue or a lack of PENDING entries ends them. -/
theorem moveOldestPending_iterate (n : Nat) (s : State) :
    ∃ alarms drops reports, moveOldestPending^[n] s
        = { s with alarms := alarms, dropCount := drops,
                   transmit := { s.transmit with urgent := s.transmit.urgent ++ reports } }
      ∧ alarms.map stateless = s.alarms.map stateless
      ∧ (reports.length = n ∨ urgentTotal ≤ (s.transmit.urgent ++ reports).length ∨ NonePending alarms) := by
  induction n generalizing s with
  | zero => exact ⟨s.alarms, s.dropCount, [], by simp, rfl, .inl rfl⟩
  | succ n ih =>
    rw [Function.iterate_succ_apply]
    obtain blocked | ⟨listed, report, moved, same⟩ := moveOldestPending_outcome s
    · have stays := moveOldestPending_stays blocked
      rw [stays, Function.iterate_fixed stays]
      exact ⟨s.alarms, s.dropCount, [], by simp, rfl, .inr (by simpa using blocked)⟩
    · obtain ⟨alarms, drops, reports, further, unchanged, ended⟩ := ih (moveOldestPending s)
      rw [further, moved]
      rw [moved] at unchanged ended
      exact ⟨alarms, drops, report :: reports, by simp, unchanged.trans same, by simpa using ended⟩

theorem movePending_iterate (s : State) : movePending s = moveOldestPending^[4] s := by
  simp only [movePending, Function.iterate_succ_apply, Function.iterate_zero_apply]

/-- The four moves of an event's end leave no PENDING entry beside a free place (R137). -/
theorem movePending_outcome (s : State) :
    ∃ alarms drops urgent, movePending s
        = { s with alarms := alarms, dropCount := drops, transmit := { s.transmit with urgent := urgent } }
      ∧ alarms.map stateless = s.alarms.map stateless ∧ (urgent.length < urgentTotal → NonePending alarms) := by
  obtain ⟨alarms, drops, reports, moved, same, ended⟩ := moveOldestPending_iterate 4 s
  refine ⟨alarms, drops, _, (movePending_iterate s).trans moved, same, fun room => ?_⟩
  obtain many | full | none := ended
  · rw [List.length_append, many, urgentTotal] at room
    omega
  · omega
  · exact none

/-! ## The choice on an idle line and the take (R165, R173, R183) -/

/-- After the choice an idle line has nothing to start, and then the URGENT queue was empty before it. -/
theorem decideIdle_outcome (s : State) :
    ∃ transmit readout, decideIdle s = { s with transmit := transmit, readout := readout }
      ∧ transmit.rate = s.transmit.rate ∧ transmit.tail = s.transmit.tail
      ∧ (transmit.line = none → s.resetting.awaited = none →
        s.transmit.urgent = [] ∧ transmit.urgent = [] ∧ transmit.normal = [] ∧ transmit.suspended = []) := by
  by_cases idle : s.transmit.line = none ∧ s.resetting.awaited = none
  · obtain ⟨transmit, readout, chosen, outcome⟩ := chooseFrame_outcome s
    refine ⟨transmit, readout, (decideIdle_idle s idle.1 idle.2).trans chosen, outcome.rate, outcome.tail, fun silent _ => ?_⟩
    obtain ⟨urgent, rest⟩ := outcome.idleLine silent
    exact ⟨urgent, List.sublist_nil.mp (urgent ▸ outcome.urgent), rest⟩
  · exact ⟨s.transmit, s.readout, decideIdle_busy s (not_and_or.mp idle), rfl, rfl, fun silent none => absurd ⟨silent, none⟩ idle⟩

theorem takeRequest_takes {s : State} {r : Request} {rest : List Request} (free : s.dispatcher.state = .free)
    (waiting : s.inbound = r :: rest) (place : s.transmit.normal.length < normalTotal) :
    takeRequest s =
      { s with
        inbound := rest
        dispatcher := { s.dispatcher with state := .executing r, behind := rest.length } } := by
  simp only [takeRequest, free, waiting, if_pos place]

theorem takeRequest_stays {s : State}
    (h : s.dispatcher.state ≠ .free ∨ s.inbound = [] ∨ normalTotal ≤ s.transmit.normal.length) : takeRequest s = s := by
  unfold takeRequest
  split
  · next free waiting =>
    rcases h with busy | none | full
    · exact absurd free busy
    · rw [none] at waiting; cases waiting
    · rw [if_neg (Nat.not_lt.mpr full)]
  · rfl

/-- The take leaves no request for a FREE Dispatcher that has a NORMAL place. -/
theorem takeRequest_outcome (s : State) :
    ∃ inbound state behind, takeRequest s
        = { s with inbound := inbound, dispatcher := { s.dispatcher with state := state, behind := behind } }
      ∧ ((state = s.dispatcher.state ∧ inbound = s.inbound ∧ behind = s.dispatcher.behind)
        ∨ ∃ r, s.dispatcher.state = .free ∧ s.inbound = r :: inbound ∧ state = .executing r ∧ behind = inbound.length)
      ∧ (state = .free → inbound = [] ∨ normalTotal ≤ s.transmit.normal.length) := by
  by_cases stays : s.dispatcher.state ≠ .free ∨ s.inbound = [] ∨ normalTotal ≤ s.transmit.normal.length
  · exact ⟨_, _, _, takeRequest_stays stays, .inl ⟨rfl, rfl, rfl⟩, fun free => stays.resolve_left (not_not_intro free)⟩
  · simp only [not_or, not_not, Nat.not_le] at stays
    obtain ⟨free, some, place⟩ := stays
    obtain ⟨r, rest, waiting⟩ := List.exists_cons_of_ne_nil some
    exact ⟨_, _, _, takeRequest_takes free waiting place, .inr ⟨r, free, waiting, rfl, rfl⟩, nofun⟩

/-! ## The end of an event -/

/-- Nothing else changes at the end of an event, and it leaves nothing that could move. -/
theorem conclude_outcome (s : State) :
    ∃ (alarms : List AlarmEntry) (drops : Nat) (tr : TransmitUnit) (ro : Readout) (inb : List Request)
      (d : DispatcherState) (b : Nat),
    conclude s =
        { s with alarms := alarms, dropCount := drops, transmit := tr, readout := ro, inbound := inb,
                 dispatcher := { s.dispatcher with state := d, behind := b } }
      ∧ alarms.map stateless = s.alarms.map stateless
      ∧ tr.rate = s.transmit.rate ∧ tr.tail = s.transmit.tail
      ∧ (tr.urgent.length < 4 → NonePending alarms)
      ∧ (tr.line = none → s.resetting.awaited = none → tr.urgent = [] ∧ tr.normal = [] ∧ tr.suspended = [])
      ∧ ((d = s.dispatcher.state ∧ inb = s.inbound ∧ b = s.dispatcher.behind)
        ∨ ∃ r, s.dispatcher.state = .free ∧ s.inbound = r :: inb ∧ d = .executing r ∧ b = inb.length)
      ∧ (d = .free → inb = [] ∨ 8 ≤ tr.normal.length) := by
  obtain ⟨first, drops₁, urgent₁, moved₁, same₁, none₁⟩ := movePending_outcome s
  obtain ⟨transmit, readout, decided, rate, tail, idle⟩ := decideIdle_outcome (movePending s)
  obtain ⟨alarms, drops, urgent, moved, same, none⟩ := movePending_outcome (decideIdle (movePending s))
  obtain ⟨inbound, state, behind, taken, request, left⟩ := takeRequest_outcome (movePending (decideIdle (movePending s)))
  rw [moved, decided, moved₁] at request left
  rw [decided, moved₁] at same
  rw [moved₁] at rate tail idle
  refine ⟨alarms, drops, { transmit with urgent := urgent }, readout, inbound, state, behind, ?_, same.trans same₁,
    rate, tail, none, fun silent awaited => ?_, request, left⟩
  · rw [conclude, taken, moved, decided, moved₁]
  · obtain ⟨empty, chosen, rest⟩ := idle silent awaited
    have settled : NonePending first := none₁ (by rw [show urgent₁ = [] from empty]; decide)
    have stays := movePending_none (s := decideIdle (movePending s))
      (by rw [decided, moved₁]; exact find?_isPending_eq_none.mpr settled)
    rw [moved, decided, moved₁] at stays
    exact ⟨(congrArg (fun t => t.transmit.urgent) stays).trans chosen, rest⟩

/-! ## What is taken before an event (R39, R75, R77; logs 1, 12) -/

theorem settle_nothingDue {s : State} (h : NothingDue s) : settle s = s := by
  obtain ⟨counts, watches⟩ := h
  have posts : settlePostCounts s = s := by
    unfold settlePostCounts
    induction allStreams with
    | nil => rfl
    | cons k rest ih => rw [List.foldl_cons, settlePostCount_none k s (counts k), ih]
  rw [settle, posts, settleWatches]
  induction allWatches with
  | nil => rfl
  | cons w rest ih =>
    obtain ⟨firing, holdoff⟩ := watches w
    have still : fireWatch w (endHoldoff w s) = s := by
      rw [endHoldoff, holdoff, if_neg Bool.false_ne_true, fireWatch, firing]
    rw [List.foldl_cons, still, ih]

/-- Settles O4: each piece by its own lemma, and their sequence by `conclude_outcome`. -/
theorem onlyTheLinkMovesAroundAnEvent : Obligations.OnlyTheLinkMovesAroundAnEvent := by
  refine ⟨fun s => by rw [conclude, movePending_iterate, movePending_iterate], fun s => ⟨decideIdle_idle s, decideIdle_busy s⟩,
    fun s before after e alarms pending oldest room => moveOldestPending_moves alarms pending oldest room,
    fun s blocked => moveOldestPending_stays blocked,
    fun s => ⟨fun r rest free waiting place => takeRequest_takes free waiting place, takeRequest_stays⟩,
    conclude_outcome, fun s => ?_, fun s => settle_nothingDue⟩
  rw [settle, settlePostCounts, allStreams_eq]
  rfl

end Sys2Proof.Machine
end

section
/-! PROOFS. The layouts of notices, reports and replies, and their codes (R148, R185, R187, R212, R214, R215). -/

namespace Sys2Proof.Machine

/-! ## Bits of a byte -/

/-- The number whose bits are given, lowest first. -/
def numberOfBits (bits : List Bool) : Nat := bits.foldr Nat.bit 0

theorem testBit_numberOfBits (bits : List Bool) (i : Nat) : (numberOfBits bits).testBit i = bits.getD i false := by
  induction bits generalizing i with
  | nil => simp [numberOfBits]
  | cons b rest ih =>
    cases i with
    | zero => simp [numberOfBits]
    | succ i => simpa [numberOfBits, Nat.testBit_bit_succ] using ih i

/-- A byte of at most 8 given bits has these and no others. -/
theorem getLsbD_byteOf_numberOfBits {bits : List Bool} (short : bits.length ≤ 8) (i : Nat) :
    (byteOf (numberOfBits bits)).getLsbD i = bits.getD i false := by
  rw [byteOf, BitVec.getLsbD_ofNat, testBit_numberOfBits]
  by_cases low : i < 8
  · simp [low]
  · simp [low, List.getElem?_eq_none (show bits.length ≤ i by omega)]

theorem flagsByte_bits (f : RecordFlags) :
    flagsByte f = byteOf (numberOfBits
      [f.preShort, f.isPartial, f.extended, f.retrigOverflow, f.truncated, f.stopped, f.read]) := by
  simp only [flagsByte, numberOfBits, List.foldr, Nat.bit_val]
  congr 1
  omega

theorem presenceByte_bits (e : AlarmEntry) :
    presenceByte e = byteOf (numberOfBits [e.value.isSome, e.record.isSome]) := by
  simp only [presenceByte, numberOfBits, List.foldr, Nat.bit_val]
  congr 1
  omega

/-! ## Fields of several bytes -/

theorem lowFirst_two (n : Nat) : lowFirst 2 n = [byteOf n, byteOf (n / 256)] := rfl

theorem timeBytes_eq (t : Time) :
    timeBytes t = [byteOf t.toNat, byteOf (t.toNat / 256), byteOf (t.toNat / 256 ^ 2), byteOf (t.toNat / 256 ^ 3),
      byteOf (t.toNat / 256 ^ 4), byteOf (t.toNat / 256 ^ 5)] := by
  simp only [timeBytes, lowFirst, Nat.div_div_eq_div_mul, Nat.reduceMul, Nat.reducePow]

/-! ## Frames -/

/-- An alarm report tells of the value and the record number that its entry has (R215). -/
theorem alarmReportFrame_layout (e : AlarmEntry) (drop : Nat) :
    (alarmReportFrame e drop).payload =
        [e.id, byteOf (e.sendCount + 1), sourceByte e.source, presenceByte e] ++ timeBytes e.time
          ++ [byteOf (e.value.getD 0).toNat, byteOf ((e.value.getD 0).toNat / 256)]
          ++ [byteOf (e.record.getD 0), byteOf (e.record.getD 0 / 256)] ++ [byteOf drop]
    ∧ (presenceByte e).getLsbD 0 = e.value.isSome ∧ (presenceByte e).getLsbD 1 = e.record.isSome
    ∧ ∀ i, 2 ≤ i → (presenceByte e).getLsbD i = false := by
  have bits := getLsbD_byteOf_numberOfBits (bits := [e.value.isSome, e.record.isSome]) (by simp)
  rw [← presenceByte_bits] at bits
  refine ⟨rfl, bits 0, bits 1, fun i high => (bits i).trans ?_⟩
  rw [List.getD_eq_default _ _ high]

/-- A reply's type is the request's with 80h added, as far as there is one (R187). -/
theorem replyType_eq (type : Byte) : replyType type = if 0x80 ≤ type.toNat then 0xFF else type + 0x80 := by
  unfold replyType
  by_cases high : 0x80 ≤ type.toNat
  · rw [if_neg (Nat.not_lt.mpr high), if_pos high]
  · rw [if_pos (Nat.not_le.mp high), if_neg high]

theorem sourceByte_watch (w : Fin 8) : (sourceByte (.watch w)).toNat = w.val := by
  rw [sourceByte, byteOf, BitVec.toNat_ofNat]
  omega

/-- Settles O16: every layout as its frame is built, the presence byte and the flags bit by bit. -/
theorem noticesAndReportsHaveTheirLayouts : Obligations.NoticesAndReportsHaveTheirLayouts := by
  refine ⟨⟨fun _ => rfl, fun _ _ _ => rfl, fun _ _ => rfl, fun _ _ _ => rfl, fun _ _ _ => rfl, fun _ _ _ _ => rfl,
    fun _ => rfl, timeBytes_eq⟩, fun e drop => ⟨presenceByte e, rfl, rfl, ?_⟩, fun r status data => ?_, by decide, by decide,
    by decide, by decide, by decide, by decide, by decide, sourceByte_watch, rfl, rfl, fun f i => ?_⟩
  · obtain ⟨payload, presence⟩ := alarmReportFrame_layout e drop
    exact ⟨payload, rfl, presence⟩
  · rw [replyFrame, replyType_eq]
  · rw [flagsByte_bits]
    exact getLsbD_byteOf_numberOfBits (by simp) i

end Sys2Proof.Machine
end

section
/-! PROOFS. The external trigger's holdoff, and the triggers that open no record or take the place of one (R25 to R34). -/

namespace Sys2Proof.Machine

/-! ## Holdoffs and pulses (R34, R87) -/

theorem expireExternalHoldoff_holdoff {left : Nat} {s : State} (h : s.external.state = .holdoff left) :
    expireExternalHoldoff s = { elapse left s with external := { s.external with state := .armed } } := by
  simp only [expireExternalHoldoff, h]
  rfl

theorem expireExternalHoldoff_stays {s : State} (h : ∀ left, s.external.state ≠ .holdoff left) :
    expireExternalHoldoff s = s := by
  unfold expireExternalHoldoff
  split
  · next left e => exact absurd e (h left)
  · rfl
  · rfl

theorem endTrigOutPulse_high {left : Nat} {s : State} (h : s.pins.trigOut = some left) :
    endTrigOutPulse s = { elapse left s with pins := { s.pins with trigOut := none } } := by
  simp only [endTrigOutPulse, h]
  rfl

theorem endTrigOutPulse_low {s : State} (h : s.pins.trigOut = none) : endTrigOutPulse s = s := by
  simp only [endTrigOutPulse, h]

/-- Settles O33: each of the two commands by its cases. -/
theorem holdoffsAndPulsesEnd : Obligations.HoldoffsAndPulsesEnd := by
  intro s u finds
  have holdoff : exec .externalHoldoffExpiry s = .next (conclude (expireExternalHoldoff u)) :=
    congrArg Host.Outcome.next (takeEvent_finds _ finds)
  have pulse : exec .trigOutPulseEnd s = .next (conclude (endTrigOutPulse u)) :=
    congrArg Host.Outcome.next (takeEvent_finds _ finds)
  exact ⟨fun left running => by rw [holdoff, expireExternalHoldoff_holdoff running],
    fun stopped => by rw [holdoff, expireExternalHoldoff_stays stopped],
    fun left high => by rw [pulse, endTrigOutPulse_high high], fun low => by rw [pulse, endTrigOutPulse_low low]⟩

/-! ## The decision at a trigger, case by case (R26 to R31) -/

/-- A retrigger of a record: the entry and the extension, or RETRIG_OVERFLOW on a full list (R27, R28). -/
theorem retriggered_eq (profile : Profile) (t : Trigger) :
    retriggered profile t = fun r => if r.retriggers.length < 4 then
        { r with
          retriggers := r.retriggers ++ [{ source := t.source, time := t.time, extended := profile.extend }]
          flags := { r.flags with extended := r.flags.extended || profile.extend }
          parts := r.parts.map fun p =>
            if profile.extend && p.collecting then { p with remaining := profile.postCount } else p }
      else { r with flags := { r.flags with retrigOverflow := true } } := by
  funext r
  have parts : (if profile.extend then r.parts.map (extendPart profile.postCount) else r.parts)
      = r.parts.map fun p => if profile.extend && p.collecting then { p with remaining := profile.postCount } else p := by
    cases profile.extend <;> simp [extendPart]
  rw [retriggered, parts]
  rfl

theorem openingStreams_eq_nil {profile : Profile} {s : State}
    (all : ∀ k : Fin 16, profile.mask.getLsbD k.val = true → (capturing k s).isSome = true) :
    openingStreams profile s = [] := by
  refine List.filter_eq_nil_iff.mpr fun k _ chosen => ?_
  obtain ⟨inside, idle⟩ := Bool.and_eq_true_iff.mp chosen
  rw [Option.isNone_iff_eq_none] at idle
  simpa [idle] using all k inside

theorem openingStreams_ne_nil {profile : Profile} {s : State} {k : Fin 16} (inside : profile.mask.getLsbD k.val = true)
    (idle : capturing k s = none) : openingStreams profile s ≠ [] := by
  have member : k ∈ openingStreams profile s :=
    List.mem_filter.mpr ⟨List.mem_finRange k, by simp only [inside, idle, Option.isNone_none, Bool.and_self]⟩
  exact List.ne_nil_of_mem member

theorem decideTrigger_retriggers {t : Trigger} {n : Nat} {s : State} (open_record : s.openRecord[t.profile] = some n) :
    decideTrigger t s = (changeRecord n (retriggered s.profiles[t.profile] t) s, .retriggered n) := by
  simp only [decideTrigger, open_record]

theorem decideTrigger_overlaps {t : Trigger} {s : State} (none : s.openRecord[t.profile] = none)
    (opening : openingStreams s.profiles[t.profile] s = []) :
    decideTrigger t s = (countUp .captureLostOverlap s, .lost .overlap) := by
  simp only [decideTrigger, none, includedStreams_eq, opening, List.isEmpty_nil, if_true]

theorem decideTrigger_withRoom {t : Trigger} {s : State} (none : s.openRecord[t.profile] = none)
    (opening : openingStreams s.profiles[t.profile] s ≠ []) : decideTrigger t s = openWithRoom t s := by
  simp only [decideTrigger, none, includedStreams_eq, List.isEmpty_iff, if_neg opening]

/-- A full table with nothing to give up (R30). -/
theorem openWithRoom_full {t : Trigger} {s : State} (full : recordTotal ≤ s.records.length)
    (refuse : s.settings.policy = .refuseNew ∨ ∀ r ∈ s.records, ¬ (r.state = .closed ∧ r.flags.read = true)) :
    openWithRoom t s = (countUp .captureLostFull s, .lost .full) := by
  rw [openWithRoom, if_neg (Nat.not_lt.mpr full)]
  cases policy : s.settings.policy with
  | refuseNew => rfl
  | discardOldestRead =>
    have unread := refuse.resolve_left (by rw [policy]; nofun)
    have nothing : discardCandidate s = none :=
      List.find?_eq_none.mpr fun r hr => by simpa using unread r hr
    rw [nothing]

/-- The first SEALED record with READ is the one that a full table gives up (R31). -/
theorem discardCandidate_split {before after : List CaptureRecord} {r : CaptureRecord} {s : State}
    (records : s.records = before ++ r :: after) (closed : r.state = .closed) (read : r.flags.read = true)
    (first : ∀ x ∈ before, ¬ (x.state = .closed ∧ x.flags.read = true)) : discardCandidate s = some r := by
  have passed : before.find? (fun x => decide (x.state = .closed) && x.flags.read) = none :=
    List.find?_eq_none.mpr fun x hx => by simpa using first x hx
  rw [discardCandidate, records, List.find?_append, passed]
  simp [closed, read]

/-- Under DISCARD_OLDEST_READ a full table gives up that record before the opening (R31). -/
theorem openWithRoom_discards {t : Trigger} {before after : List CaptureRecord} {r : CaptureRecord} {s : State}
    (sound : RecordNumbersSound s) (policy : s.settings.policy = .discardOldestRead) (full : recordTotal ≤ s.records.length)
    (records : s.records = before ++ r :: after) (closed : r.state = .closed) (read : r.flags.read = true)
    (first : ∀ x ∈ before, ¬ (x.state = .closed ∧ x.flags.read = true)) :
    openWithRoom t s = openRecordFor t (raiseNotice (.recordDiscarded r.number) (countUp .recordDiscarded
      { s with records := before ++ after, free := s.free ++ (recordPages r).map blankPage })) := by
  have nodup := sound.2.1
  rw [recordNumbers, records] at nodup
  obtain ⟨othersBefore, othersAfter⟩ := numbers_of_split nodup
  simp only [openWithRoom, if_neg (Nat.not_lt.mpr full), policy, discardCandidate_split records closed read first]
  rw [discardRecord, removeRecord_split records rfl othersBefore othersAfter]

/-! ## TRIGGER (R24 to R34) -/

theorem takeTrigger_decided {t : Trigger} {s : State} (running : s.acquisition = .running) (this_run : t.earlierRun = false) :
    takeTrigger t s
      = { (decideTrigger t s).1 with
          alarmRequests := (decideTrigger t s).1.alarmRequests ++ alarmOf t (outcomeRecord (decideTrigger t s).2) } := by
  simp only [takeTrigger, running, this_run, requestAlarm_eq]
  rfl

theorem takeTrigger_stopped {t : Trigger} {s : State} (h : s.acquisition ≠ .running ∨ t.earlierRun = true) :
    takeTrigger t s = { s with alarmRequests := s.alarmRequests ++ alarmOf t none } := by
  obtain e | ⟨running, this_run, -⟩ := takeTrigger_cases t s
  · exact e
  · rcases h with h | h
    · exact absurd running h
    · rw [this_run] at h; cases h

theorem countUp_alarmRequests (id : CounterId) (s : State) : (countUp id s).alarmRequests = s.alarmRequests := by
  obtain ⟨_, _, _, counted, -⟩ := countUp_shape id s
  rw [counted]

theorem raiseNotice_alarmRequests (n : Notice) (s : State) : (raiseNotice n s).alarmRequests = s.alarmRequests := by
  obtain ⟨_, _, _, raised, -⟩ := raiseNotice_shape n s
  rw [raised]

/-- A trigger that is lost with a count. -/
theorem takeTrigger_lost {t : Trigger} {s : State} {id : CounterId} {reason : LostReason}
    (running : s.acquisition = .running) (this_run : t.earlierRun = false)
    (lost : decideTrigger t s = (countUp id s, .lost reason)) :
    takeTrigger t s = { countUp id s with alarmRequests := s.alarmRequests ++ alarmOf t none } := by
  rw [takeTrigger_decided running this_run, lost]
  dsimp only [outcomeRecord]
  rw [countUp_alarmRequests]

/-- Where no trigger stands nothing is taken (log 4). -/
theorem exec_trigger_none {i : Nat} {s u : State} (finds : Finds s u) (none : u.triggers[i]? = none) :
    exec (.trigger i) s = .next (conclude u) := by
  have taken : takeEvent (takeTriggerAt i) s = conclude (takeTriggerAt i u) := takeEvent_finds _ finds
  have nothing : takeTriggerAt i u = u := by simp only [takeTriggerAt, none]
  rw [nothing] at taken
  exact congrArg Host.Outcome.next taken

/-- Settles O34: the decision in the order of R26 to R30, and the alarm request with its outcome. -/
theorem triggersAreLostOrRetrigger : Obligations.TriggersAreLostOrRetrigger := by
  rintro i s u _ finds rfl
  refine ⟨exec_trigger_none finds, fun t => exec_trigger finds, ?_⟩
  rintro t _ found rfl
  have taken := exec_trigger finds found
  refine ⟨fun stopped => ?_, fun n running this_run opened => ?_, fun running this_run none all => ?_,
    fun k running this_run none inside idle full refuse => ?_⟩
  · rw [taken, takeTrigger_stopped (s := withoutTrigger i u) stopped]
    rfl
  · rw [taken, takeTrigger_decided (s := withoutTrigger i u) running this_run,
      decideTrigger_retriggers (s := withoutTrigger i u) opened, retriggered_eq]
    rfl
  · have overlaps := decideTrigger_overlaps (s := withoutTrigger i u) none (openingStreams_eq_nil all)
    rw [taken, takeTrigger_lost (s := withoutTrigger i u) running this_run overlaps]
    rfl
  · have lost : decideTrigger t (withoutTrigger i u) = (countUp .captureLostFull (withoutTrigger i u), .lost .full) :=
      (decideTrigger_withRoom (s := withoutTrigger i u) none (openingStreams_ne_nil inside idle)).trans
        (openWithRoom_full full refuse)
    rw [taken, takeTrigger_lost (s := withoutTrigger i u) running this_run lost]
    rfl

/-- Settles O36: the record given up is the first candidate, and its removal leaves the trigger's own opening. -/
theorem fullTableDiscardsTheOldestRead : Obligations.FullTableDiscardsTheOldestRead := by
  refine ⟨fun t s before after r sound policy full records closed read first =>
    openWithRoom_discards sound policy full records closed read first, ?_⟩
  rintro i t before after r s u _ _ finds rfl found running this_run none opening sound policy full records closed read
    first rfl
  have opens := (decideTrigger_withRoom (s := withoutTrigger i u) none opening).trans
    (openWithRoom_discards (s := withoutTrigger i u) sound policy full records closed read first)
  rw [exec_trigger finds found, takeTrigger_decided (s := withoutTrigger i u) running this_run, opens, openRecordFor_eq]
  dsimp only [outcomeRecord]
  rw [show ∀ w, (afterOpening t w).alarmRequests = w.alarmRequests from fun _ => rfl, raiseNotice_alarmRequests,
    countUp_alarmRequests]
  rfl

end Sys2Proof.Machine
end

section
/-! PROOFS. Force Capture (R89, R205). -/

namespace Sys2Proof.Machine

/-! ## Counting while notices are held (R147, R188) -/

/-- The notice of a counter's cause: FAULT at its first occurrence (R147). -/
def firstFault (id : CounterId) (s : State) : List Notice :=
  if (counterOf s id).value = 0 then [.fault id s.clock.timebase] else []

/-- While notices are held a FAULT joins them, and the counter rises. -/
theorem countUp_held {id : CounterId} {s : State} {notices : List Notice} (link : id ≠ .linkResets)
    (dropped : id ≠ .noticeDropped) (held : s.dispatcher.held = some notices) :
    countUp id s
      = { countOne id s with dispatcher := { s.dispatcher with held := some (notices ++ firstFault id s) } } := by
  by_cases first : (counterOf s id).value = 0
  · have raised := raiseNotice_held (.fault id s.clock.timebase) (countOne id s) notices held
    unfold countUp
    rw [if_pos first, firstFault, if_pos first]
    split
    · exact absurd rfl link
    · exact absurd rfl dropped
    · exact raised
  · unfold countUp
    rw [if_neg first, firstFault, if_neg first, List.append_nil, ← held]
    rfl

theorem countUp_again {id : CounterId} {s : State} (again : (counterOf s id).value ≠ 0) : countUp id s = countOne id s := by
  unfold countUp
  rw [if_neg again]

/-! ## Validation (R89, R205) -/

theorem maskStreams_zero : maskStreams 0 = [] :=
  List.eq_nil_iff_forall_not_mem.mpr fun k member => by simpa using mem_maskStreams.mp member

theorem profileUsable_of {p : Fin 4} {s : State} (h : usableProfile p s = true) : ProfileUsable p s := by
  obtain ⟨nonempty, enabled⟩ := Bool.and_eq_true_iff.mp h
  refine ⟨fun zero => ?_, fun k inside => List.all_eq_true.mp enabled k (mem_maskStreams.mpr inside)⟩
  rw [zero, maskStreams_zero] at nonempty
  cases nonempty

theorem usableProfile_eq_false {p : Fin 4} {s : State} (h : ¬ ProfileUsable p s) : usableProfile p s = false :=
  Bool.eq_false_iff.mpr (mt profileUsable_of h)

/-- A number of a table fits its byte. -/
theorem ofNat_byteOf {n : Nat} [NeZero n] (small : n ≤ 256) (k : Fin n) : Fin.ofNat n (byteOf k.val).toNat = k := by
  have fits := k.isLt
  have value : (byteOf k.val).toNat = k.val := by rw [byteOf, BitVec.toNat_ofNat, Nat.mod_eq_of_lt (by omega)]
  rw [value]
  exact Fin.ext (Nat.mod_eq_of_lt fits)

theorem below_byteOf {n bound : Nat} (small : n < bound) (fits : bound ≤ 256) : below bound (byteOf n) = true := by
  rw [below, byteOf, BitVec.toNat_ofNat, Nat.mod_eq_of_lt (by omega), decide_eq_true small]

/-- Stages 4 and 5 of Force Capture, for a payload that names a profile. -/
theorem forceVerdict_eq (p : Fin 4) (s : State) :
    (readByte 4 [byteOf p.val]).bind (checkForce s)
      = unlessOk (decide (s.acquisition = .running)) .wrongState 0xFF
          (unlessOk (usableProfile p s) .notConfigured (byteOf (0x30 + p.val)) (.ok p)) := by
  have read : readByte 4 [byteOf p.val] = .ok (byteOf p.val) := by
    rw [readByte, checkFields, below_byteOf p.isLt (by decide)]
    rfl
  rw [read]
  change checkForce s (byteOf p.val) = _
  rw [checkForce, ofNat_byteOf (by decide)]
  rfl

/-- A Force Capture that nothing forbids takes its FORCE trigger. -/
theorem runForceCapture_accepted {p : Fin 4} {r : Request} {s : State} (payload : r.payload = [byteOf p.val])
    (running : s.acquisition = .running) (usable : ProfileUsable p s) :
    runForceCapture none r s
      = answerAccepted none r (fun t =>
          ((decideTrigger (forceTrigger p t) t).1, outcomeData (decideTrigger (forceTrigger p t) t).2)) s := by
  rw [runForceCapture, payload, forceVerdict_eq, unlessOk, if_pos (decide_eq_true running), unlessOk,
    if_pos (usableProfile_of usable)]
  rfl

theorem runForceCapture_stopped {p : Fin 4} {r : Request} {s : State} (payload : r.payload = [byteOf p.val])
    (stopped : s.acquisition ≠ .running) : runForceCapture none r s = refusedWith r .wrongState 0xFF s := by
  rw [runForceCapture, payload, forceVerdict_eq, unlessOk, if_neg (by simpa using stopped)]
  exact answerRefused_eq r .wrongState 0xFF s

theorem runForceCapture_unusable {p : Fin 4} {r : Request} {s : State} (payload : r.payload = [byteOf p.val])
    (running : s.acquisition = .running) (unusable : ¬ ProfileUsable p s) :
    runForceCapture none r s = refusedWith r .notConfigured (byteOf (0x30 + p.val)) s := by
  rw [runForceCapture, payload, forceVerdict_eq, unlessOk, if_pos (decide_eq_true running), unlessOk,
    if_neg (by simp [usableProfile_eq_false unusable])]
  exact answerRefused_eq r .notConfigured _ s

/-! ## The outcome (R29 to R31, R147, R188) -/

section

variable {p : Fin 4} {r : Request} {s : State} (payload : r.payload = [byteOf p.val])
  (running : s.acquisition = .running) (usable : ProfileUsable p s)

include payload running usable

/-- The outcome of the FORCE trigger is the reply, and the notices of its decision follow it. -/
theorem runForceCapture_announces {t : State} {outcome : TriggerOutcome} (notices : List Notice)
    (decided : decideTrigger (forceTrigger p s) (holdNotices s)
      = ({ t with dispatcher := { t.dispatcher with held := some notices } }, outcome)) :
    runForceCapture none r s = offered notices (replied r (outcomeData outcome) t) := by
  rw [runForceCapture_accepted payload running usable]
  refine answerAccepted_eq r _ s t _ notices ?_
  rw [show forceTrigger p (holdNotices s) = forceTrigger p s from rfl, decided]

theorem runForceCapture_quiet {t : State} {outcome : TriggerOutcome}
    (decided : decideTrigger (forceTrigger p s) (holdNotices s) = (holdNotices t, outcome)) :
    runForceCapture none r s = replied r (outcomeData outcome) t :=
  runForceCapture_announces payload running usable [] decided

/-- A FORCE trigger that is lost with a count. -/
theorem runForceCapture_lost {id : CounterId} {reason : LostReason} (link : id ≠ .linkResets)
    (dropped : id ≠ .noticeDropped)
    (lost : decideTrigger (forceTrigger p s) (holdNotices s) = (countUp id (holdNotices s), .lost reason)) :
    runForceCapture none r s = offered (firstFault id s) (replied r (outcomeData (.lost reason)) (countOne id s)) := by
  refine runForceCapture_announces payload running usable _ (lost.trans ?_)
  rw [countUp_held link dropped (notices := []) rfl]
  rfl

/-- The record given up is counted and announced after the reply (R31). -/
theorem runForceCapture_discards {before after : List CaptureRecord} {y : CaptureRecord}
    (none : s.openRecord[p] = none) (opening : openingStreams s.profiles[p] s ≠ []) (sound : RecordNumbersSound s)
    (policy : s.settings.policy = .discardOldestRead) (full : recordTotal ≤ s.records.length)
    (records : s.records = before ++ y :: after) (closed : y.state = .closed) (read : y.flags.read = true)
    (first : ∀ x ∈ before, ¬ (x.state = .closed ∧ x.flags.read = true)) (v : State)
    (hv : v = countOne .recordDiscarded
      { s with records := before ++ after, free := s.free ++ (recordPages y).map blankPage }) :
    runForceCapture Option.none r s
      = offered (firstFault .recordDiscarded s ++ [.recordDiscarded y.number])
          (replied r (outcomeData (.opened (freshNumber v))) (afterOpening (forceTrigger p s) v)) := by
  subst hv
  have decided := (decideTrigger_withRoom (t := forceTrigger p s) (s := holdNotices s) none opening).trans
    (openWithRoom_discards (s := holdNotices s) sound policy full records closed read first)
  refine runForceCapture_announces payload running usable _ (decided.trans ?_)
  rw [countUp_held (id := .recordDiscarded) nofun nofun (notices := []) rfl, raiseNotice_held _ _ _ rfl, openRecordFor_eq]
  rfl

end

/-- FORCE_CAPTURE carries out the request that it finds. -/
theorem exec_forceCapture {r : Request} {s u : State} (finds : FindsRequest r s u) (type : r.type = 0x23) :
    exec .forceCapture s = .next (conclude (runForceCapture none r u)) := by
  show Host.Outcome.next (takeEvent (carryOut (ofType 0x23) (runForceCapture none)) s) = _
  rw [carryOut_finds r _ _ finds (by rw [ofType, type]; rfl)]

/-- Settles O51: the refusals in their order, and each outcome of the decision with what it announces. -/
theorem forceCapturesAnswerTheirOutcome : Obligations.ForceCapturesAnswerTheirOutcome := by
  rintro r s u p _ _ finds type payload rfl rfl
  have run := exec_forceCapture finds type
  refine ⟨fun stopped => ?_, fun running unusable => ?_, fun n running usable opened => ?_,
    fun running usable none all => ?_, fun k running usable none inside idle full refuse => ?_,
    fun k before after y v running usable none inside idle sound policy full records closed read first hv => ?_,
    fun k n running usable none inside idle room number => ?_⟩
  · rw [run, runForceCapture_stopped payload stopped]
  · rw [run, runForceCapture_unusable payload running unusable]
  · have decided := decideTrigger_retriggers (t := forceTrigger p u) (s := holdNotices u) opened
    rw [retriggered_eq] at decided
    rw [run, runForceCapture_quiet payload running usable (t := changeRecord n _ u) decided]
    rfl
  · have lost := runForceCapture_lost payload running usable (id := .captureLostOverlap) nofun nofun
      (decideTrigger_overlaps (t := forceTrigger p u) (s := holdNotices u) none (openingStreams_eq_nil all))
    refine ⟨fun again => ?_, run.trans (congrArg (fun t => Host.Outcome.next (conclude t)) lost)⟩
    have again : (counterOf u .captureLostOverlap).value ≠ 0 := again
    rw [run, lost, countUp_again again, firstFault, if_neg again]
    rfl
  · have lost := runForceCapture_lost payload running usable (id := .captureLostFull) nofun nofun
      ((decideTrigger_withRoom (t := forceTrigger p u) (s := holdNotices u) none (openingStreams_ne_nil inside idle)).trans
        (openWithRoom_full full refuse))
    exact run.trans (congrArg (fun t => Host.Outcome.next (conclude t)) lost)
  · have discards := runForceCapture_discards payload running usable none (openingStreams_ne_nil inside idle) sound policy
      full records closed read first v hv
    exact run.trans (congrArg (fun t => Host.Outcome.next (conclude t)) discards)
  · subst number
    have opens := runForceCapture_quiet payload running usable (t := afterOpening (forceTrigger p u) u)
      (decideTrigger_opens (t := forceTrigger p u) (s := holdNotices u) none (openingStreams_ne_nil inside idle) room)
    exact ⟨run.trans (congrArg (fun t => Host.Outcome.next (conclude t)) opens),
      _, _, rfl, rfl, rfl, rfl, rfl, rfl, rfl, rfl, rfl, rfl, rfl⟩

end Sys2Proof.Machine
end

section
/-! PROOFS. The configuration requests: their fields read back, and the item replaced whole (11.5). -/

namespace Sys2Proof.Machine

/-! ## Fields read back (R212) -/

theorem toNat_byteOf {n : Nat} (fits : n < 256) : (byteOf n).toNat = n := by
  rw [byteOf, BitVec.toNat_ofNat, Nat.mod_eq_of_lt fits]

theorem valueOf_lowFirst_of_lt {count n : Nat} (fits : n < 256 ^ count) : valueOf (lowFirst count n) = n := by
  induction count generalizing n with
  | zero =>
    rw [Nat.pow_zero] at fits
    rw [lowFirst, valueOf]
    omega
  | succ count ih =>
    have rest : n / 256 < 256 ^ count := Nat.div_lt_of_lt_mul (by rwa [Nat.pow_succ'] at fits)
    rw [lowFirst, valueOf, ih rest, byteOf, BitVec.toNat_ofNat]
    omega

theorem word_lowFirst (x : BitVec 16) : word (byteOf x.toNat) (byteOf (x.toNat / 256)) = x := by
  have value : valueOf (lowFirst 2 x.toNat) = x.toNat := valueOf_lowFirst_of_lt x.isLt
  exact (congrArg (BitVec.ofNat 16) value).trans (by simp)

theorem isOn_flagByte (b : Bool) : isOn (flagByte b) = b := by cases b <;> rfl

theorem isFlag_flagByte (b : Bool) : isFlag (flagByte b) = true := by cases b <;> rfl

theorem readFilter_filterByte (f : FilterChoice) : readFilter (filterByte f) = f := by
  cases f with
  | coefficients set =>
    have named : byteOf set.val ≠ 0xFF := by revert set; decide
    rw [filterByte, readFilter, if_neg named, ofNat_byteOf (by decide)]
  | bypass => rfl

theorem filterByte_inRange (f : FilterChoice) : (below 4 (filterByte f) || filterByte f == 0xFF) = true := by
  cases f with
  | coefficients set => rw [filterByte, below_byteOf set.isLt (by decide), Bool.true_or]
  | bypass => rfl

theorem checkFields_ok {α : Type} {inRange : List Bool} (all : ∀ b ∈ inRange, b = true) (value : α) :
    checkFields inRange value = .ok value := by
  have none : ∀ index, firstOutOfRange index inRange = none := by
    induction inRange with
    | nil => exact fun _ => rfl
    | cons b rest ih =>
      intro index
      obtain rfl : b = true := all b List.mem_cons_self
      exact ih (fun x hx => all x (List.mem_cons_of_mem _ hx)) (index + 1)
  rw [checkFields, none]

/-! ## Items read back (R194 to R197, R200) -/

theorem slots_length (slots : List Slot) : (slots.flatMap slotBytes).length = 4 * slots.length := by
  induction slots with
  | nil => rfl
  | cons slot rest ih =>
    rw [List.flatMap_cons, List.length_append, ih, List.length_cons]
    simp only [slotBytes, List.length_cons, List.length_nil]
    omega

theorem readSlots_slotBytes (slots : List Slot) : readSlots (slots.flatMap slotBytes) = slots := by
  induction slots with
  | nil => rfl
  | cons slot rest ih =>
    obtain ⟨input, polarity, gain, settle⟩ := slot
    have coded : (if isOn (polarityByte polarity) then Polarity.inverted else .normal) = polarity := by
      cases polarity <;> rfl
    simp only [List.flatMap_cons, slotBytes, List.cons_append, List.nil_append, readSlots, ih, coded]
    rw [ofNat_byteOf (by decide), ofNat_byteOf (by decide), ofNat_byteOf (by decide)]

theorem slotsInRange_slotBytes (slots : List Slot) : ∀ b ∈ slotsInRange (slots.flatMap slotBytes), b = true := by
  induction slots with
  | nil => exact fun _ h => nomatch h
  | cons slot rest ih =>
    obtain ⟨input, polarity, gain, settle⟩ := slot
    have coded : isFlag (polarityByte polarity) = true := by cases polarity <;> rfl
    simp only [List.flatMap_cons, slotBytes, List.cons_append, List.nil_append, slotsInRange, coded,
      below_byteOf input.isLt (by decide), below_byteOf gain.isLt (by decide), below_byteOf settle.isLt (by decide)]
    simpa using ih

theorem readConfigureScan_slots {slots : List Slot} (some : slots ≠ []) (few : slots.length ≤ 16) :
    readConfigureScan (byteOf slots.length :: slots.flatMap slotBytes) = .ok slots := by
  have count : (byteOf slots.length).toNat = slots.length := toNat_byteOf (by omega)
  have many : 1 ≤ slots.length := List.length_pos_iff.mpr some
  rw [readConfigureScan, count, if_pos (slots_length slots), readSlots_slotBytes]
  refine checkFields_ok (fun b member => ?_) slots
  rcases List.mem_cons.mp member with rfl | member
  · exact decide_eq_true ⟨many, few⟩
  · exact slotsInRange_slotBytes slots b member

theorem readConfigureStream_stream {x : StreamSettings} (k : Fin 16) (low : 1 ≤ x.decimation) (high : x.decimation ≤ 16)
    (history : x.history ≤ 16) : readConfigureStream (byteOf k.val :: streamBytes x) = .ok (k, x) := by
  obtain ⟨enabled, filter, decimation, pages, format⟩ := x
  have decimated : (byteOf decimation).toNat = decimation := toNat_byteOf (Nat.lt_of_le_of_lt high (by decide))
  have kept : (byteOf pages).toNat = pages := toNat_byteOf (Nat.lt_of_le_of_lt history (by decide))
  have coded : (if isOn (formatByte format) then Format.packed else .full) = format := by cases format <;> rfl
  have flagged : isFlag (formatByte format) = true := by cases format <;> rfl
  simp only [streamBytes, readConfigureStream, isOn_flagByte, readFilter_filterByte, decimated, kept, coded]
  rw [ofNat_byteOf (by decide)]
  refine checkFields_ok ?_ _
  simp only [isFlag_flagByte, filterByte_inRange, flagged, below_byteOf k.isLt (by decide),
    below_byteOf (Nat.lt_succ_of_le history) (by decide), decide_eq_true (And.intro low high)]
  simp

theorem readConfigureProfile_profile {x : Profile} (p : Fin 4) (pre : x.preCount ≤ 65535) (low : 1 ≤ x.postCount)
    (high : x.postCount ≤ 65535) : readConfigureProfile (byteOf p.val :: profileBytes x) = .ok (p, x) := by
  obtain ⟨mask, preCount, postCount, extend⟩ := x
  have before := valueOf_lowFirst pre
  have after := valueOf_lowFirst high
  have some : postCount ≠ 0 := Nat.one_le_iff_ne_zero.mp low
  simp only [profileBytes, lowFirst_two, List.cons_append, List.nil_append, readConfigureProfile, before, after,
    isOn_flagByte, word_lowFirst]
  rw [ofNat_byteOf (by decide)]
  refine checkFields_ok ?_ _
  simp only [isFlag_flagByte, below_byteOf p.isLt (by decide), decide_eq_true some]
  simp

theorem readConfigureAcquisition_settings {x : AcquisitionSettings} (low : 10 ≤ x.period) (high : x.period ≤ 1000000) :
    readConfigureAcquisition (settingsBytes x) = .ok x := by
  obtain ⟨source, period, policy⟩ := x
  have value : valueOf (lowFirst 4 period) = period := valueOf_lowFirst_of_lt (Nat.lt_of_le_of_lt high (by decide))
  have coded : readSource (roundSourceByte source) = source := by cases source <;> rfl
  have named : below 3 (roundSourceByte source) = true := by cases source <;> rfl
  have chosen : (if isOn (policyByte policy) then TableFullPolicy.discardOldestRead else .refuseNew) = policy := by
    cases policy <;> rfl
  have flagged : isFlag (policyByte policy) = true := by cases policy <;> rfl
  simp only [lowFirst] at value
  simp only [settingsBytes, lowFirst, List.cons_append, List.nil_append, readConfigureAcquisition, value, coded, chosen]
  refine checkFields_ok ?_ _
  simp only [named, flagged, decide_eq_true (And.intro low high)]
  simp

theorem samples_length (samples : List Sample) : (samples.flatMap sampleBytes).length = 2 * samples.length := by
  induction samples with
  | nil => rfl
  | cons x rest ih =>
    rw [List.flatMap_cons, List.length_append, ih, List.length_cons, sampleBytes, lowFirst_two]
    simp only [List.length_cons, List.length_nil]
    omega

theorem readCoefficientList_sampleBytes (samples : List Sample) :
    readCoefficientList (samples.flatMap sampleBytes) = samples := by
  induction samples with
  | nil => rfl
  | cons x rest ih =>
    simp only [List.flatMap_cons, sampleBytes, lowFirst_two, List.cons_append, List.nil_append, readCoefficientList,
      word_lowFirst]
    exact congrArg _ ih

theorem readLoadCoefficients_set {x : CoefficientSet} (set : Fin 4) (few : x.coefficients.length ≤ 32)
    (shift : x.shift ≤ 15) : readLoadCoefficients (byteOf set.val :: coefficientBytes x) = .ok (set, x) := by
  have count : (byteOf x.coefficients.length).toNat = x.coefficients.length := toNat_byteOf (by omega)
  have shifted : (byteOf x.shift).toNat = x.shift := toNat_byteOf (by omega)
  simp only [coefficientBytes, List.cons_append, List.nil_append, readLoadCoefficients, count, samples_length, if_true,
    shifted, readCoefficientList_sampleBytes]
  rw [ofNat_byteOf (by decide)]
  refine checkFields_ok ?_ _
  simp only [below_byteOf set.isLt (by decide), below_byteOf (Nat.lt_succ_of_le few) (by decide),
    below_byteOf (Nat.lt_succ_of_le shift) (by decide)]
  simp

/-! ## The answers (R107, R109, R121) -/

/-- A request that only IDLE accepts: its effect, or WRONG_STATE. -/
theorem answer_onlyIdle {α : Type} {r : Request} {s t : State} {verdict : Verdict α} {a : α}
    {effect : α → State → State × List Byte} (read : verdict = .ok a)
    (replaced : effect a (holdNotices s) = (holdNotices t, [])) :
    (s.acquisition = .idle → answer none r (onlyIdle s verdict) effect s = replied r [] t)
      ∧ (s.acquisition ≠ .idle → answer none r (onlyIdle s verdict) effect s = refusedWith r .wrongState 0xFF s) := by
  subst read
  refine ⟨fun idle => ?_, fun busy => ?_⟩
  · have passes : onlyIdle s (.ok a) = .ok a := if_pos (decide_eq_true idle)
    rw [passes]
    exact answerAccepted_quiet r _ s t [] replaced
  · have refused : onlyIdle s (.ok a) = refuse .wrongState 0xFF := if_neg (by simpa using busy)
    rw [refused]
    exact answerRefused_eq r .wrongState 0xFF s

theorem setInUse_eq_true {set : Fin 4} {s : State} {k : Fin 16} (enabled : s.streams[k].enabled = true)
    (named : s.streams[k].filter = .coefficients set) : setInUse set s = true := by
  refine List.any_eq_true.mpr ⟨k, List.mem_filter.mpr ⟨?_, enabled⟩, decide_eq_true named⟩
  rw [allStreams_eq]
  exact List.mem_finRange k

theorem setInUse_eq_false {set : Fin 4} {s : State}
    (unnamed : ∀ k : Fin 16, s.streams[k].enabled = true → s.streams[k].filter ≠ .coefficients set) :
    setInUse set s = false :=
  List.any_eq_false.mpr fun k member =>
    fun named => unnamed k (List.mem_filter.mp member).2 (of_decide_eq_true named)

/-- A set is replaced unless a running stream names it (R109). -/
theorem checkLoad_ok {set : Fin 4} {x : CoefficientSet} {s : State}
    (free : s.acquisition = .idle
      ∨ ∀ k : Fin 16, s.streams[k].enabled = true → s.streams[k].filter ≠ .coefficients set) :
    checkLoad s (set, x) = .ok (set, x) := by
  have unused : (acquiring s && setInUse set s) = false := by
    rcases free with idle | unnamed
    · rw [acquiring, decide_eq_true idle]; rfl
    · rw [setInUse_eq_false unnamed, Bool.and_false]
  rw [checkLoad, unlessOk, unused]
  rfl

theorem checkLoad_inUse {set : Fin 4} {x : CoefficientSet} {s : State} {k : Fin 16} (busy : s.acquisition ≠ .idle)
    (enabled : s.streams[k].enabled = true) (named : s.streams[k].filter = .coefficients set) :
    checkLoad s (set, x) = refuse .setInUse (byteOf set.val) := by
  rw [checkLoad, unlessOk, setInUse_eq_true enabled named, acquiring, decide_eq_false busy]
  rfl

/-- A request of the type that a command stands for is carried out in the state that the event finds. -/
theorem carriedOut {type : Byte} {run : Request → State → State} {r : Request} {s u : State} (finds : FindsRequest r s u)
    (of_type : r.type = type) :
    (.next (takeEvent (carryOut (ofType type) run) s) : Host.Outcome State Fault Refusal) = .next (conclude (run r u)) := by
  rw [carryOut_finds r _ _ finds (by rw [ofType, of_type, beq_self_eq_true])]

/-- The same for a request that only IDLE accepts. -/
theorem carriedOut_onlyIdle {type : Byte} {run : Request → State → State} {r : Request} {s u t : State}
    (finds : FindsRequest r s u) (of_type : r.type = type)
    (answers : (u.acquisition = .idle → run r u = replied r [] t)
      ∧ (u.acquisition ≠ .idle → run r u = refusedWith r .wrongState 0xFF u)) :
    (u.acquisition = .idle →
        (.next (takeEvent (carryOut (ofType type) run) s) : Host.Outcome State Fault Refusal)
          = .next (conclude (replied r [] t)))
      ∧ (u.acquisition ≠ .idle →
        (.next (takeEvent (carryOut (ofType type) run) s) : Host.Outcome State Fault Refusal)
          = .next (conclude (refusedWith r .wrongState 0xFF u))) := by
  obtain ⟨accepted, refused⟩ := answers
  rw [carriedOut finds of_type]
  exact ⟨fun idle => by rw [accepted idle], fun busy => by rw [refused busy]⟩

/-- Settles O43: each item is read back as it was coded, and replaced or refused. -/
theorem configurationIsReplacedWhole : Obligations.ConfigurationIsReplacedWhole := by
  refine ⟨⟨?scan, ?stream, ?profile, ?acquisition⟩, ?coefficients⟩
  case scan =>
    intro r s u slots finds type some few payload
    have read := readConfigureScan_slots some few
    rw [← payload] at read
    exact carriedOut_onlyIdle (run := runConfigureScan none) finds type (answer_onlyIdle read rfl)
  case stream =>
    intro r s u k x finds type low high history payload
    have read := readConfigureStream_stream k low high history
    rw [← payload] at read
    exact carriedOut_onlyIdle (run := runConfigureStream none) finds type (answer_onlyIdle read rfl)
  case profile =>
    intro r s u p x finds type pre low high payload
    have read := readConfigureProfile_profile p pre low high
    rw [← payload] at read
    exact carriedOut_onlyIdle (run := runConfigureProfile none) finds type (answer_onlyIdle read rfl)
  case acquisition =>
    intro r s u x finds type low high payload
    have read := readConfigureAcquisition_settings low high
    rw [← payload] at read
    exact carriedOut_onlyIdle (run := runConfigureAcquisition none) finds type (answer_onlyIdle read rfl)
  case coefficients =>
    intro r s u set x finds type few shift payload
    have read := readLoadCoefficients_set set few shift
    rw [← payload] at read
    have run : exec .loadCoefficients s = .next (conclude (runLoadCoefficients none r u)) := carriedOut finds type
    refine ⟨fun free => ?_, fun k busy enabled named => ?_⟩
    · have checked : (readLoadCoefficients r.payload).bind (checkLoad u) = .ok (set, x) := by
        rw [read]
        exact checkLoad_ok free
      rw [run, runLoadCoefficients, checked]
      have accepted := answerAccepted_quiet r (fun t => ({ t with coefficients := put t.coefficients set x }, [])) u
        { u with coefficients := put u.coefficients set x } [] rfl
      exact congrArg (fun t => Host.Outcome.next (conclude t)) accepted
    · have checked : (readLoadCoefficients r.payload).bind (checkLoad u) = refuse .setInUse (byteOf set.val) := by
        rw [read]
        exact checkLoad_inUse busy enabled named
      rw [run, runLoadCoefficients, checked]
      exact congrArg (fun t => Host.Outcome.next (conclude t)) (answerRefused_eq r .setInUse _ u)

end Sys2Proof.Machine
end

section
/-! PROOFS. The immediate Stop: every OPEN record stops, closes and is announced (R44, R129, R130). -/

namespace Sys2Proof.Machine

/-! ## One record stops (R15, R44) -/

/-- A record whose collecting streams have stopped at a Stop. -/
def stoppedRecord (r : CaptureRecord) : CaptureRecord :=
  { r with
    flags := { r.flags with stopped := r.flags.stopped || (r.parts.any fun p => p.collecting) }
    parts := r.parts.map fun p => if p.collecting then stoppedPart p else p }

/-- A record that has closed at a time (R42). -/
def closedAt (time : Time) (r : CaptureRecord) : CaptureRecord := { r with state := .closed, closeTime := some time }

/-- The notice of a record that closes (R42). -/
def doneNotice (r : CaptureRecord) : Notice := .captureDone r.number r.flags (imageLength r)

/-- Another table of records, with the same pages on the free list and in the rings, though at other places. -/
def Restocked (records : List CaptureRecord) (s t : State) : Prop :=
  ∃ free rings sinks, t = { s with records := records, free := free, rings := rings, sinks := sinks }
    ∧ (t.free ++ ringPages t).Perm (s.free ++ ringPages s)

theorem restocked_refl (s : State) : Restocked s.records s s := ⟨s.free, s.rings, s.sinks, rfl, .refl _⟩

theorem restocked_trans {first second : List CaptureRecord} {s t u : State} (h : Restocked first s t)
    (k : Restocked second t u) : Restocked second s u := by
  obtain ⟨_, _, _, rfl, pages⟩ := h
  obtain ⟨free, rings, sinks, rfl, more⟩ := k
  exact ⟨free, rings, sinks, rfl, more.trans pages⟩

theorem changeFirst_self {α : Type} (picks : α → Bool) (l : List α) : changeFirst picks (fun x => x) l = l := by
  simpa using changeFirst_map picks (fun x => x) id l fun _ _ => rfl

/-- With distinct keys, those before a member have other keys. -/
theorem key_ne_of_nodup {α κ : Type} {key : α → κ} {done rest : List α} {x : α}
    (nodup : ((done ++ x :: rest).map key).Nodup) : ∀ y ∈ done, key y ≠ key x := by
  rw [List.map_append, List.map_cons] at nodup
  exact fun y member => (List.nodup_append.mp nodup).2.2 _ (List.mem_map_of_mem member) _ List.mem_cons_self

/-- A record once some streams have stopped collecting for it (R15). -/
def streamsStopped (ks : List (Fin 16)) (r : CaptureRecord) : CaptureRecord :=
  { r with parts := ks.foldl (fun parts k => changeFirst (fun p => p.stream == k) stoppedPart parts) r.parts }

/-- A stream that stops gives its ring's pages to the free list (R12, R15). -/
theorem stopCollecting_restocked (n : Nat) (k : Fin 16) (s : State) :
    Restocked (changeFirst (fun r => r.number == n) (streamsStopped [k]) s.records) s (stopCollecting n k s) := by
  refine ⟨_, _, _, stopCollecting_eq n k s, ?_⟩
  obtain ⟨before, after, rings, emptied⟩ := put_toList_split s.rings k
  simp only [stopCollecting_eq, ringPages, rings, emptied, List.flatMap_append, List.flatMap_cons, List.map_append,
    List.append_assoc]
  exact (List.perm_append_comm_assoc _ _ _).append_left s.free

theorem foldl_stopCollecting_restocked (n : Nat) (ks : List (Fin 16)) (s : State) :
    Restocked (changeFirst (fun r => r.number == n) (streamsStopped ks) s.records) s
      (ks.foldl (fun t k => stopCollecting n k t) s) := by
  induction ks generalizing s with
  | nil =>
    rw [show streamsStopped [] = fun r => r from rfl, changeFirst_self]
    exact restocked_refl s
  | cons k rest ih =>
    have further := ih (stopCollecting n k s)
    have records : (stopCollecting n k s).records = changeFirst (fun r => r.number == n) (streamsStopped [k]) s.records :=
      rfl
    rw [records, changeFirst_changeFirst _ (streamsStopped [k]) _ _ fun _ => rfl] at further
    exact restocked_trans (stopCollecting_restocked n k s) further

/-- The parts that collect stop, one after another, each on its own (R35). -/
theorem foldl_stoppedPart (done parts : List StreamPart) (distinct : ((done ++ parts).map fun p => p.stream).Nodup) :
    ((parts.filter fun p => p.collecting).map fun p => p.stream).foldl
        (fun parts k => changeFirst (fun p => p.stream == k) stoppedPart parts) (done ++ parts)
      = done ++ parts.map fun p => if p.collecting then stoppedPart p else p := by
  induction parts generalizing done with
  | nil => rfl
  | cons p rest ih =>
    by_cases collecting : p.collecting = true
    · have others := key_ne_of_nodup distinct
      have once := changeFirst_append (picks := fun x => x.stream == p.stream) stoppedPart (after := rest)
        (fun y member => by simpa using others y member) (beq_self_eq_true p.stream)
      have further := ih (done ++ [stoppedPart p]) (by simpa [stoppedPart] using distinct)
      simp only [List.append_assoc, List.singleton_append] at further
      rw [List.filter_cons_of_pos collecting, List.map_cons, List.foldl_cons, once, further, List.map_cons,
        if_pos collecting]
    · have further := ih (done ++ [p]) (by simpa using distinct)
      simp only [List.append_assoc, List.singleton_append] at further
      rw [List.filter_cons_of_neg collecting, further, List.map_cons, if_neg collecting]

theorem streamsStopped_whole {r : CaptureRecord} (distinct : PartsDistinct r) :
    (streamsStopped ((r.parts.filter fun p => p.collecting).map fun p => p.stream) r).parts = (stoppedRecord r).parts :=
  foldl_stoppedPart [] r.parts distinct

theorem stopRecord_restocked {n : Nat} {r : CaptureRecord} {s : State} (found : findRecord n s = some r)
    (distinct : PartsDistinct r) :
    Restocked (changeFirst (fun x => x.number == n) stoppedRecord s.records) s (stopRecord n s) := by
  have stopped := foldl_stopCollecting_restocked n ((r.parts.filter fun p => p.collecting).map fun p => p.stream) s
  rw [List.foldl_map, List.foldl_filter] at stopped
  obtain ⟨free, rings, sinks, ended, pages⟩ := stopped
  have whole := streamsStopped_whole distinct
  have record := changeFirst_congr (g := stoppedRecord) (f := fun x =>
    { streamsStopped ((r.parts.filter fun p => p.collecting).map fun p => p.stream) x with
      flags := { x.flags with stopped := x.flags.stopped || (r.parts.any fun p => p.collecting) } }) found
    (by dsimp only; rw [whole]; rfl)
  simp only [stopRecord, found]
  refine ⟨free, rings, sinks, ?_, pages⟩
  rw [ended, changeFlags, changeRecord, ← record]
  dsimp only
  rw [changeFirst_changeFirst _ (streamsStopped _) _ _ fun _ => rfl]
  rfl

/-! ## Every OPEN record stops and closes (R42, R44) -/

/-- With distinct numbers, a change of a record's number is that of the record. -/
theorem changeFirst_number {done rest : List CaptureRecord} {r : CaptureRecord} (f : CaptureRecord → CaptureRecord)
    (nodup : ((done ++ r :: rest).map fun x => x.number).Nodup) :
    changeFirst (fun x => x.number == r.number) f (done ++ r :: rest) = done ++ f r :: rest :=
  changeFirst_append f (fun y member => by simpa using key_ne_of_nodup nodup y member) (beq_self_eq_true r.number)

/-- The OPEN records of a table stop, one after another, each on its own (R33, R44). -/
theorem foldl_stopRecord_restocked (done left : List CaptureRecord) (s : State) (records : s.records = done ++ left)
    (nodup : (recordNumbers s).Nodup) (distinct : ∀ r ∈ left, PartsDistinct r) :
    Restocked (done ++ left.map fun r => if isOpen r then stoppedRecord r else r) s
      (((left.filter isOpen).map fun r => r.number).foldl (fun t n => stopRecord n t) s) := by
  induction left generalizing done s with
  | nil =>
    rw [List.map_nil, ← records]
    exact restocked_refl s
  | cons r rest ih =>
    have others := fun x hx => distinct x (List.mem_cons_of_mem r hx)
    by_cases opened : isOpen r = true
    · have found : findRecord r.number s = some r := findRecord_of_mem nodup (by simp [records])
      have stopped := stopRecord_restocked found (distinct r List.mem_cons_self)
      have keys := nodup
      rw [recordNumbers, records] at keys
      rw [records, changeFirst_number stoppedRecord keys] at stopped
      have table : (stopRecord r.number s).records = (done ++ [stoppedRecord r]) ++ rest := by
        obtain ⟨_, _, _, e, -⟩ := stopped
        rw [e]
        simp
      have still : (recordNumbers (stopRecord r.number s)).Nodup := by
        rw [recordNumbers, table]
        simpa [stoppedRecord] using keys
      have further := ih (done ++ [stoppedRecord r]) _ table still others
      rw [List.filter_cons_of_pos opened, List.map_cons, List.map_cons, List.foldl_cons, if_pos opened]
      simp only [List.append_assoc, List.singleton_append] at further
      exact restocked_trans stopped further
    · have further := ih (done ++ [r]) s (by simpa using records) nodup others
      simp only [List.append_assoc, List.singleton_append] at further
      rw [List.filter_cons_of_neg opened, List.map_cons, if_neg opened]
      exact further

theorem closeIfDone_stopped_record {r : CaptureRecord} {s : State} {notices : List Notice}
    (found : findRecord r.number s = some r) (opened : isOpen r = true) (idle : ∀ p ∈ r.parts, p.collecting = false)
    (held : s.dispatcher.held = some notices) :
    closeIfDone r.number s
      = { s with
          records := changeFirst (fun x => x.number == r.number) (closedAt s.clock.timebase) s.records
          openRecord := put s.openRecord r.profile none
          dispatcher := { s.dispatcher with held := some (notices ++ [doneNotice r]) } } := by
  have none : (r.parts.any fun p => p.collecting) = false := List.any_eq_false.mpr fun p member => by simp [idle p member]
  simp only [closeIfDone, found, opened, none, Bool.not_false, Bool.and_self, if_true]
  exact (closeRecord_eq r s).trans (raiseNotice_held (doneNotice r) _ notices held)

/-- The profiles of some records lose their OPEN record. -/
def withoutOpen (closed : List CaptureRecord) (openRecord : Vector (Option Nat) 4) : Vector (Option Nat) 4 :=
  closed.foldl (fun v r => put v r.profile none) openRecord

theorem withoutOpen_get (closed : List CaptureRecord) (openRecord : Vector (Option Nat) 4) (p : Fin 4) :
    (withoutOpen closed openRecord)[p] = if ∃ r ∈ closed, r.profile = p then none else openRecord[p] := by
  induction closed generalizing openRecord with
  | nil => simp [withoutOpen]
  | cons r rest ih =>
    rw [withoutOpen, List.foldl_cons, ← withoutOpen, ih, put_get]
    by_cases further : ∃ x ∈ rest, x.profile = p
    · obtain ⟨x, member, profile⟩ := further
      rw [if_pos ⟨x, member, profile⟩, if_pos ⟨x, List.mem_cons_of_mem r member, profile⟩]
    · rw [if_neg further]
      by_cases own : p = r.profile
      · rw [if_pos own, if_pos ⟨r, List.mem_cons_self, own.symm⟩]
      · rw [if_neg own, if_neg]
        rintro ⟨x, member, profile⟩
        rcases List.mem_cons.mp member with rfl | member
        · exact own profile.symm
        · exact further ⟨x, member, profile⟩

/-- OPEN records that have stopped close in table order, each with its notice (R42, R44). -/
theorem foldl_closeIfDone_eq (done left : List CaptureRecord) (s : State) (notices : List Notice)
    (records : s.records = done ++ left) (nodup : (recordNumbers s).Nodup)
    (idle : ∀ r ∈ left, isOpen r = true → ∀ p ∈ r.parts, p.collecting = false)
    (held : s.dispatcher.held = some notices) :
    ((left.filter isOpen).map fun r => r.number).foldl (fun t n => closeIfDone n t) s
      = { s with
          records := done ++ left.map fun r => if isOpen r then closedAt s.clock.timebase r else r
          openRecord := withoutOpen (left.filter isOpen) s.openRecord
          dispatcher := { s.dispatcher with held := some (notices ++ (left.filter isOpen).map doneNotice) } } := by
  induction left generalizing done s notices with
  | nil =>
    simp only [List.filter_nil, List.map_nil, List.foldl_nil, withoutOpen, List.append_nil, ← held]
    rw [List.append_nil] at records
    rw [← records]
  | cons r rest ih =>
    have others := fun x hx => idle x (List.mem_cons_of_mem r hx)
    by_cases opened : isOpen r = true
    · have found : findRecord r.number s = some r := findRecord_of_mem nodup (by simp [records])
      have closes := closeIfDone_stopped_record found opened (idle r List.mem_cons_self opened) held
      have keys := nodup
      rw [recordNumbers, records] at keys
      rw [records, changeFirst_number _ keys] at closes
      have table : (closeIfDone r.number s).records = (done ++ [closedAt s.clock.timebase r]) ++ rest := by
        rw [closes]
        simp
      have still : (recordNumbers (closeIfDone r.number s)).Nodup := by
        rw [recordNumbers, table]
        simpa [closedAt] using keys
      have further := ih (done ++ [closedAt s.clock.timebase r]) _ (notices ++ [doneNotice r]) table still others
        (by rw [closes])
      rw [List.filter_cons_of_pos opened, List.map_cons, List.foldl_cons, further, closes]
      simp only [List.map_cons, opened, if_true, List.append_assoc, List.singleton_append, withoutOpen, List.foldl_cons]
    · have further := ih (done ++ [r]) s notices (by simpa using records) nodup others held
      rw [List.filter_cons_of_neg opened, further]
      simp only [List.map_cons, if_neg opened, List.append_assoc, List.singleton_append]

/-! ## The Stop (R126, R129, R130) -/

theorem isOpen_stopped (r : CaptureRecord) : isOpen (if isOpen r then stoppedRecord r else r) = isOpen r := by
  split <;> rfl

/-- The table as the Stop leaves it, before the records close. -/
def stoppedTable (s : State) : List CaptureRecord := s.records.map fun r => if isOpen r then stoppedRecord r else r

theorem stoppedTable_open (s : State) :
    (stoppedTable s).filter isOpen = (s.records.filter isOpen).map stoppedRecord := by
  rw [stoppedTable, List.filter_map, show (isOpen ∘ fun r => if isOpen r then stoppedRecord r else r) = isOpen from
    funext isOpen_stopped]
  exact List.map_congr_left fun r member => if_pos (List.mem_filter.mp member).2

theorem stoppedTable_idle (s : State) :
    ∀ r ∈ stoppedTable s, isOpen r = true → ∀ p ∈ r.parts, p.collecting = false := by
  intro r member opened p part
  obtain ⟨x, -, rfl⟩ := List.mem_map.mp member
  rw [isOpen_stopped] at opened
  rw [if_pos opened] at part
  obtain ⟨q, -, rfl⟩ := List.mem_map.mp part
  split
  · rfl
  · next idle => simpa using idle

theorem stoppedTable_closed (s : State) (time : Time) :
    ((stoppedTable s).map fun r => if isOpen r then closedAt time r else r)
      = s.records.map fun r => if isOpen r then closedAt time (stoppedRecord r) else r := by
  rw [stoppedTable, List.map_map]
  refine List.map_congr_left fun r _ => ?_
  dsimp only [Function.comp_apply]
  rw [isOpen_stopped]
  by_cases opened : isOpen r = true
  · rw [if_pos opened, if_pos opened, if_pos opened]
  · rw [if_neg opened, if_neg opened, if_neg opened]

theorem stoppedTable_numbers (s : State) : ((stoppedTable s).map fun r => r.number) = recordNumbers s := by
  rw [stoppedTable, List.map_map]
  exact List.map_congr_left fun r _ => by dsimp only [Function.comp_apply]; split <;> rfl

theorem stoppedTable_openNumbers (s : State) :
    (((stoppedTable s).filter isOpen).map fun r => r.number) = openNumbers s := by
  rw [stoppedTable_open, List.map_map]
  rfl

/-- Every OPEN record stops, and then they close in table order (R44). -/
theorem stopAllRecords_eq {s : State} (nodup : (recordNumbers s).Nodup) (distinct : ∀ r ∈ s.records, PartsDistinct r)
    (held : s.dispatcher.held = some []) :
    ∃ free rings sinks, stopAllRecords s
        = { s with
            records := s.records.map fun r => if isOpen r then closedAt s.clock.timebase (stoppedRecord r) else r
            openRecord := withoutOpen ((s.records.filter isOpen).map stoppedRecord) s.openRecord
            dispatcher := { s.dispatcher with
              held := some ((s.records.filter isOpen).map fun r => doneNotice (stoppedRecord r)) }
            free := free, rings := rings, sinks := sinks }
      ∧ (free ++ ringPages { s with rings := rings }).Perm (s.free ++ ringPages s) := by
  obtain ⟨free, rings, sinks, stopped, pages⟩ := foldl_stopRecord_restocked [] s.records s rfl nodup distinct
  rw [stopped] at pages
  refine ⟨free, rings, sinks, ?_, pages⟩
  have closes := foldl_closeIfDone_eq [] (stoppedTable s)
    { s with records := stoppedTable s, free := free, rings := rings, sinks := sinks } [] rfl
    (by rw [recordNumbers, stoppedTable_numbers]; exact nodup) (stoppedTable_idle s) held
  rw [stoppedTable_openNumbers, stoppedTable_open, List.map_map] at closes
  dsimp only at closes
  rw [stoppedTable_closed] at closes
  rw [stopAllRecords, openNumbers, stopped, ← openNumbers]
  exact closes

/-- What an immediate Stop leaves, with the notices it raises in their order (R44, R129, R130). -/
theorem stopNow_eq {s : State} (nodup : (recordNumbers s).Nodup) (distinct : ∀ r ∈ s.records, PartsDistinct r) :
    ∃ free, stopNow (holdNotices s)
        = { quieted s with
            records := s.records.map fun r => if isOpen r then closedAt s.clock.timebase (stoppedRecord r) else r
            openRecord := withoutOpen ((s.records.filter isOpen).map stoppedRecord) s.openRecord
            dispatcher := { s.dispatcher with
              held := some (((s.records.filter isOpen).map fun r => doneNotice (stoppedRecord r))
                ++ [.acquisitionIdle .stopped s.clock.timebase s.records.length]) }
            free := free }
      ∧ free.Perm (s.free ++ ringPages s) := by
  obtain ⟨free, rings, sinks, stopped, pages⟩ := stopAllRecords_eq (s := disarmAll (holdNotices s)) nodup distinct rfl
  refine ⟨_, ?_, pages⟩
  have raised := reachIdle_eq .stopped (stopAllRecords (disarmAll (holdNotices s)))
  rw [stopped, raiseNotice_held _ _ _ rfl] at raised
  rw [stopNow, stopped, raised]
  dsimp only
  rw [List.length_map]
  simp only [quieted, disarmed, disarmAll, Vector.map_map]
  rfl

/-! ## STOP_IMMEDIATE (R203) -/

theorem stopEffect_immediate {s : State} (acquires : s.acquisition ≠ .idle) : stopEffect 1 s = stopNow s := by
  unfold stopEffect
  split
  · next idle => exact absurd idle acquires
  · rfl
  · rfl

/-- An immediate Stop of a part that acquires finds the outputs that were due delivered (R119; log 14). -/
theorem runStop_immediate {r : Request} {s : State} (payload : r.payload = [1]) (acquires : s.acquisition ≠ .idle) :
    runStop none r s
      = answerAccepted none r (fun t => (stopEffect 1 t, [acquisitionByte (stopEffect 1 t).acquisition]))
          (outputsTaken s) := by
  have read : readStop [1] = .ok 1 := rfl
  have reaches : stopReachesIdle 1 s = true := by
    rw [stopReachesIdle, acquiring, decide_eq_false acquires]
    rfl
  rw [runStop, payload, read, beforeStop, if_pos reaches, deliverAll_eq]
  rfl

/-- The reply and the notices of an immediate Stop, from the state that it finds (R129, R188). -/
theorem answerAccepted_stopNow {r : Request} {s : State} (acquires : s.acquisition ≠ .idle)
    (nodup : (recordNumbers s).Nodup) (distinct : ∀ x ∈ s.records, PartsDistinct x) :
    ∃ free,
      answerAccepted none r (fun t => (stopEffect 1 t, [acquisitionByte (stopEffect 1 t).acquisition])) s
        = offered
            (((s.records.filter isOpen).map fun x => doneNotice (stoppedRecord x))
              ++ [.acquisitionIdle .stopped s.clock.timebase s.records.length])
            (replied r [0x00]
              { quieted s with
                free := free
                openRecord := withoutOpen ((s.records.filter isOpen).map stoppedRecord) s.openRecord
                records := s.records.map fun x =>
                  if isOpen x then closedAt s.clock.timebase (stoppedRecord x) else x })
      ∧ free.Perm (s.free ++ ringPages s) := by
  obtain ⟨free, stopped, pages⟩ := stopNow_eq nodup distinct
  refine ⟨free, answerAccepted_eq r _ s _ [0x00] _ ?_, pages⟩
  dsimp only
  rw [stopEffect_immediate (s := holdNotices s) acquires, stopped]
  rfl

theorem exists_open_of_profile (s : State) (p : Fin 4) :
    (∃ r ∈ (s.records.filter isOpen).map stoppedRecord, r.profile = p)
      ↔ ∃ x ∈ s.records, x.state = .opened ∧ x.profile = p := by
  simp [isOpen, stoppedRecord, and_assoc]

/-- Settles O49: the records stop on their own parts, and their closings raise the notices in table order. -/
theorem immediateStopsSealEveryOpenRecord : Obligations.ImmediateStopsSealEveryOpenRecord := by
  rintro r s u z _ finds type payload acquires delivered still sound distinct rfl
  have serves : isStopImmediate r = true := by
    rw [isStopImmediate, ofType, type, payload]
    rfl
  have run : exec .stopImmediate s = .next (conclude (runStop none r u)) :=
    congrArg Host.Outcome.next (carryOut_finds r _ _ finds serves)
  obtain ⟨free, answered, pages⟩ := answerAccepted_stopNow (r := r) still sound.2.1 distinct
  refine ⟨free, withoutOpen ((z.records.filter isOpen).map stoppedRecord) z.openRecord, ?_, pages, fun p => ?_⟩
  · rw [run, runStop_immediate payload acquires, ← delivered, answered]
    simp only [isOpen, decide_eq_true_eq]
    rfl
  · rw [withoutOpen_get]
    exact if_congr (exists_open_of_profile z p) rfl rfl

end Sys2Proof.Machine
end

section
/-! PROOFS. Record images and their readout (R53 to R67, R218 to R220). -/

namespace Sys2Proof.Machine

/-! ## The length of an image (R53 to R60) -/

theorem lowFirst_length (count n : Nat) : (lowFirst count n).length = count := by
  induction count generalizing n with
  | zero => rfl
  | succ count ih => rw [lowFirst, List.length_cons, ih]

theorem lowFirst_four (n : Nat) :
    lowFirst 4 n = [byteOf n, byteOf (n / 256), byteOf (n / 256 ^ 2), byteOf (n / 256 ^ 3)] := by
  simp only [lowFirst, Nat.div_div_eq_div_mul, Nat.reduceMul, Nat.reducePow]

theorem imageHeader_length (r : CaptureRecord) : (imageHeader r).length = 32 := by
  simp only [imageHeader, timeBytes, sampleBytesOrZero, sampleBytes, List.length_append, lowFirst_length, List.length_cons,
    List.length_nil]

theorem streamSection_length (p : StreamPart) : (streamSection p).length = 16 := by
  simp only [streamSection, List.length_append, lowFirst_length, List.length_cons, List.length_nil]

theorem retriggerEntry_length (e : Retrigger) : (retriggerEntry e).length = 8 := by
  simp only [retriggerEntry, timeBytes, List.length_append, lowFirst_length, List.length_cons, List.length_nil]

theorem retriggerEntries_length (entries : List Retrigger) :
    (entries.flatMap retriggerEntry).length = 8 * entries.length := by
  simp only [List.length_flatMap, retriggerEntry_length, List.map_const', List.sum_replicate, smul_eq_mul, mul_comm]

/-- A part whose pages hold its data gives all of it (R57, R58). -/
theorem partData_length {p : StreamPart} (holds : skippedBytes p + dataLength p ≤ (storedBytes p).length) :
    (partData p).length = dataLength p := by
  rw [partData, List.length_take, List.length_drop]
  omega

theorem recordImage_length {r : CaptureRecord}
    (holds : ∀ p ∈ r.parts, skippedBytes p + dataLength p ≤ (storedBytes p).length) :
    (recordImage r).length = imageLength r := by
  have parts : (r.parts.flatMap fun p => streamSection p ++ partData p).length
      = (r.parts.map fun p => 16 + dataLength p).sum := by
    rw [List.length_flatMap]
    refine congrArg List.sum (List.map_congr_left fun p hp => ?_)
    rw [List.length_append, streamSection_length, partData_length (holds p hp)]
  rw [recordImage, List.length_append, List.length_append, imageHeader_length, parts, retriggerEntries_length, imageLength]

/-- 2 bytes a sample of a FULL part, 17 bytes a block of a PACKED one (R57, R58). -/
theorem dataLength_eq (p : StreamPart) :
    dataLength p = match p.format with
      | .full => 2 * (p.preCount + p.postCount)
      | .packed => if p.preCount + p.postCount = 0 then 0
          else 17 * ((p.leadTotal % 16 + (p.preCount + p.postCount) + 15) / 16) := by
  cases format : p.format with
  | full => simp only [dataLength, format, windowLength]
  | packed =>
    simp only [dataLength, format, blockCount, windowLength, sectionLead, ceilDiv, blockBytes, blockPositions]
    split <;> rfl

/-- The image length, spelled (R60). -/
theorem imageLength_eq (r : CaptureRecord) :
    imageLength r = 32 + (r.parts.map fun p => 16 +
          (match p.format with
           | .full => 2 * (p.preCount + p.postCount)
           | .packed => if p.preCount + p.postCount = 0 then 0
               else 17 * ((p.leadTotal % 16 + (p.preCount + p.postCount) + 15) / 16))).sum
        + 8 * r.retriggers.length := by
  rw [imageLength, List.map_congr_left fun p _ => congrArg (16 + ·) (dataLength_eq p)]

/-! ## The bytes of an image (R212, R218 to R220) -/

/-- A record whose trigger carries no sample has 0 in the place of each of its fields (R54, R212). -/
theorem imageHeader_eq (r : CaptureRecord) :
    imageHeader r
      = [byteOf r.number, byteOf (r.number / 256), byteOf r.profile.val, flagsByte { r.flags with read := false },
          sourceByte r.source, byteOf r.parts.length, byteOf r.retriggers.length,
          byteOf (match r.sample with | some x => x.stream.val | none => 0)]
        ++ timeBytes r.time
        ++ lowFirst 4 (match r.sample with | some x => x.index | none => (0 : SampleIndex)).toNat
        ++ lowFirst 2 (match r.sample with | some x => x.value | none => (0 : Sample)).toNat
        ++ timeBytes (r.closeTime.getD 0)
        ++ [byteOf r.requestedPre, byteOf (r.requestedPre / 256), byteOf r.requestedPost, byteOf (r.requestedPost / 256),
          byteOf (imageLength r), byteOf (imageLength r / 256)] := by
  cases sample : r.sample <;>
    simp only [imageHeader, sample, lowFirst_two, flagsAtClosing, sampleBytesOrZero, sampleBytes, Option.map_none,
      Option.map_some, Option.getD_none, Option.getD_some, List.append_assoc, List.cons_append, List.nil_append,
      BitVec.ofNat_eq_ofNat, BitVec.toNat_ofNat, Nat.zero_mod]

theorem slotSettingsByte_eq (p : StreamPart) :
    slotSettingsByte p = byteOf
      ((match p.polarity with | .normal => 0 | .inverted => 1) + 2 * p.gain.val + (if p.starved then 8 else 0)) := by
  rw [slotSettingsByte]
  cases p.polarity <;> cases p.starved <;> rfl

theorem sectionLead_eq (p : StreamPart) :
    sectionLead p = match p.format with | .full => 0 | .packed => p.leadTotal % 16 := by
  rw [sectionLead]
  cases p.format <;> rfl

theorem skippedBytes_eq (p : StreamPart) :
    skippedBytes p = match p.format with | .full => 2 * p.leadTotal | .packed => 17 * (p.leadTotal / 16) := by
  rw [skippedBytes]
  cases p.format <;> rfl

/-- Settles O17: each length is a sum of fixed ones, and each field stands in its bytes. -/
theorem imagesHaveTheLengthOfTheirParts : Obligations.ImagesHaveTheLengthOfTheirParts := by
  refine ⟨fun r holds => ?lengths, imageLength_eq, fun r => rfl, ?header, ?part, fun p => ?data, fun e => ?entry⟩
  case lengths =>
    have whole := recordImage_length holds
    have header : (recordImage r).take 32 = imageHeader r := by
      rw [recordImage, List.append_assoc]
      exact List.take_left' (imageHeader_length r)
    refine ⟨whole.trans (imageLength_eq r), whole, imageHeader_length r, ?_⟩
    rw [← header, List.take_append_drop]
  case header =>
    rintro r _ _ _ _ rfl rfl rfl rfl
    refine (imageHeader_eq r).trans ?_
    rw [lowFirst_four]
    rfl
  case part =>
    rintro p settings coded
    have settled : slotSettingsByte p = settings := (slotSettingsByte_eq p).trans coded.symm
    have lead := congrArg byteOf (sectionLead_eq p)
    rw [streamSection, lowFirst_four, settled, lead]
    rfl
  case data =>
    have skipped := skippedBytes_eq p
    rw [partData, skipped]
    rfl
  case entry => rfl

end Sys2Proof.Machine
end

section
namespace Sys2Proof.Machine

/-! ## The chunks of a readout (R63, R172) -/

/-- Nothing pending and nothing suspended: the unit is left to a bulk chunk (R172, R173). -/
theorem chooseFrame_lowest {s : State} (stack : s.transmit.suspended = []) (urgent : s.transmit.urgent = [])
    (normal : s.transmit.normal = []) : chooseFrame s = startChunk s := by
  simp only [chooseFrame, urgent, normal, startLower, stack]

/-- The next chunk of an ACTIVE readout (R63, R216). -/
def nextChunk (r : CaptureRecord) (readout : Readout) : BulkChunk :=
  let d := min chunkData (readout.length - readout.offset)
  let last := decide (readout.offset + d = readout.length)
  { frame := chunkFrame last readout.tag readout.record readout.offset (((recordImage r).drop readout.offset).take d)
    offset := readout.offset
    last := last
    ofReadout := true }

/-- The readout once that chunk has been built: behind its bytes, and FINISHING at the image's end (R63). -/
def readoutAfterChunk (readout : Readout) : Readout :=
  let next := readout.offset + min chunkData (readout.length - readout.offset)
  { readout with offset := next, state := if next = readout.length then .finishing else .active }

theorem buildChunk_active {s : State} {r : CaptureRecord} (active : s.readout.state = .active)
    (found : findRecord s.readout.record s = some r) :
    buildChunk s = some (nextChunk r s.readout, { s with readout := readoutAfterChunk s.readout }) := by
  simp only [buildChunk, active, found, nextChunk, readoutAfterChunk, decide_eq_true_eq]

/-- An empty buffer takes the chunk, and its OPEN goes on TXD (R172). -/
theorem startChunk_active {s : State} {r : CaptureRecord} (empty : s.transmit.bulk = none)
    (active : s.readout.state = .active) (found : findRecord s.readout.record s = some r) :
    startChunk s = startFrame (nextChunk r s.readout).frame
      { s with
        readout := readoutAfterChunk s.readout
        transmit := { s.transmit with bulk := some (nextChunk r s.readout) } } := by
  rw [startChunk, empty, buildChunk_active active found]
  rfl

/-- A chunk's frame is a BULK_LAST at the image's end, a BULK chunk before it (R63, R216). -/
theorem nextChunk_frame (r : CaptureRecord) (readout : Readout) {d : Nat}
    (length : d = min 236 (readout.length - readout.offset)) :
    (nextChunk r readout).frame =
      { kind := .chunk, type := if readout.offset + d = readout.length then 0x61 else 0x60, tag := readout.tag,
        payload := [byteOf readout.record, byteOf (readout.record / 256), byteOf readout.offset,
            byteOf (readout.offset / 256)] ++ ((recordImage r).drop readout.offset).take d } := by
  subst length
  by_cases last : readout.offset + min 236 (readout.length - readout.offset) = readout.length <;>
    simp [nextChunk, chunkFrame, chunkData, last, lowFirst_two]

/-- Settles O22: the choice is left to the chunk that an ACTIVE readout builds. -/
theorem chunksCarryTheImage : Obligations.ChunksCarryTheImage := by
  intro s r stack urgent normal empty active found
  refine ⟨nextChunk r s.readout, _, rfl, nextChunk_frame r s.readout rfl, rfl, rfl, rfl, ?_⟩
  rw [chooseFrame_lowest stack urgent normal, startChunk_active empty active found]
  rfl

/-! ## Read Record (R62, R207) -/

theorem readReadRecord_lowFirst {n offset : Nat} (low : 1 ≤ n) (high : n ≤ 65535) (short : offset ≤ 65535) :
    readReadRecord [byteOf n, byteOf (n / 256), byteOf offset, byteOf (offset / 256)] = .ok (n, offset) := by
  have number : valueOf [byteOf n, byteOf (n / 256)] = n := valueOf_lowFirst high
  have start : valueOf [byteOf offset, byteOf (offset / 256)] = offset := valueOf_lowFirst short
  rw [readReadRecord, number, start]
  refine checkFields_ok ?_ _
  simpa using Nat.one_le_iff_ne_zero.mp low

theorem checkRead_busy {s : State} (busy : s.readout.state ≠ .idle) (v : Nat × Nat) :
    checkRead s v = refuse .readoutBusy 0xFF := by
  rw [checkRead, unlessOk, decide_eq_false busy, if_neg Bool.false_ne_true]

theorem checkRead_absent {s : State} {n offset : Nat} (idle : s.readout.state = .idle) (absent : findRecord n s = none) :
    checkRead s (n, offset) = refuse .noRecord 0xFF := by
  simp only [checkRead, unlessOk, idle, decide_true, if_true, absent]

/-- The last two checks are made of the record (R62). -/
theorem checkRead_found {s : State} {n offset : Nat} {x : CaptureRecord} (idle : s.readout.state = .idle)
    (found : findRecord n s = some x) :
    checkRead s (n, offset) = if x.state = .opened then refuse .notSealed 0xFF
      else if offset < imageLength x then .ok (x, offset) else refuse .badOffset 0xFF := by
  simp only [checkRead, unlessOk, idle, decide_true, if_true, found, isOpen, Bool.not_eq_true', decide_eq_false_iff_not,
    ite_not, decide_eq_true_eq]

/-- Read Record, by the verdict of its checks. -/
theorem runReadRecord_verdict {r : Request} {s : State} {n offset : Nat} (low : 1 ≤ n) (high : n ≤ 65535)
    (short : offset ≤ 65535) (payload : r.payload = [byteOf n, byteOf (n / 256), byteOf offset, byteOf (offset / 256)]) :
    runReadRecord none r s
      = answer none r (checkRead s (n, offset)) (fun v t => (beginReadout r.tag v.1 v.2 t, readData v.1)) s := by
  rw [runReadRecord, payload, readReadRecord_lowFirst low high short]
  rfl

/-- A refused verdict is answered with its status. -/
theorem answer_refuse {α : Type} {r : Request} {s : State} {verdict : Verdict α} {status : Status} {detail : Byte}
    {effect : α → State → State × List Byte} (refused : verdict = refuse status detail) :
    answer none r verdict effect s = refusedWith r status detail s := by
  rw [refused]
  exact answerRefused_eq r status detail s

/-! ## Cancel Readout (R65, R66, R208) -/

/-- The part without its readout: the record SEALED again, the source IDLE and the chunk disowned (R65). -/
def readoutReleased (s : State) : State := disownChunk (releaseReadout s)

/-- While notices are held, a cancelled readout adds READOUT_ENDED to them (R65, R66). -/
theorem endReadout_cancelled {s : State} {notices : List Notice} (held : s.dispatcher.held = some notices) :
    endReadout .cancelled s
      = { readoutReleased s with
          dispatcher := { s.dispatcher with
            held := some (notices ++ [.readoutEnded s.readout.record .cancelled s.readout.offset]) } } :=
  raiseNotice_held _ (disownChunk (releaseReadout s)) notices held

theorem cancelVerdict_eq {r : Request} {s : State} (payload : r.payload = []) :
    (readNothing r.payload).bind (checkCancel s)
      = if s.readout.state = .idle then refuse .noReadout 0xFF else .ok () := by
  rw [payload]
  show checkCancel s () = _
  simp only [checkCancel, unlessOk, Bool.not_eq_true', decide_eq_false_iff_not, ite_not]

/-- Settles O52: each verdict of the checks in their order, and the two effects. -/
theorem readoutsBeginAndAreCancelled : Obligations.ReadoutsBeginAndAreCancelled := by
  refine ⟨?read, ?cancel⟩
  case read =>
    intro r s u n offset finds type low high short payload
    have run : exec .readRecord s = .next (conclude (runReadRecord none r u)) := carriedOut finds type
    rw [run, runReadRecord_verdict low high short payload]
    refine ⟨fun busy => by rw [answer_refuse (checkRead_busy busy _)],
      fun idle absent => by rw [answer_refuse (checkRead_absent idle absent)], fun x idle found => ?_⟩
    have verdict := checkRead_found (offset := offset) idle found
    refine ⟨fun opened => ?_, fun closed beyond => ?_, fun closed inside => ?_⟩
    · rw [if_pos opened] at verdict
      rw [answer_refuse verdict]
    · rw [if_neg closed, if_neg (Nat.not_lt.mpr beyond)] at verdict
      rw [answer_refuse verdict]
    · rw [if_neg closed, if_pos inside] at verdict
      obtain rfl := findRecord_number found
      have answered := answerAccepted_quiet r (fun t => (beginReadout r.tag x offset t, readData x)) u
        (beginReadout r.tag x offset u) (readData x) rfl
      rw [verdict]
      exact congrArg (fun t => Host.Outcome.next (conclude t)) answered
  case cancel =>
    intro r s u finds type payload
    have run : exec .cancelReadout s = .next (conclude (runCancelReadout none r u)) := carriedOut finds type
    have verdict := cancelVerdict_eq (s := u) payload
    rw [run, runCancelReadout]
    refine ⟨fun idle => ?_, fun busy => ?_⟩
    · rw [if_pos idle] at verdict
      rw [answer_refuse verdict]
    · rw [if_neg busy] at verdict
      rw [verdict]
      have ended := endReadout_cancelled (s := holdNotices u) rfl
      exact congrArg (fun t => Host.Outcome.next (conclude t))
        (answerAccepted_eq r (fun t => (endReadout .cancelled t, [])) u (readoutReleased u) [] _ (by rw [ended]; rfl))

end Sys2Proof.Machine
end

section
/-! PROOFS. The end of a frame, and what its owner does with it (R64, R138, R172, R174, R181). -/

namespace Sys2Proof.Machine

/-! ## The completion handed to the owner (R174) -/

/-- No frame is being sent (R174). -/
def sentWhole (s : State) : State := { s with transmit := { s.transmit with sending := none } }

/-- A reply, a notice and a report whose entry is gone have no owner that waits for their end (R141). -/
theorem completeFrame_unheeded {f : Frame}
    (kind : f.kind = .reply ∨ f.kind = .notice ∨ ∃ id drop, f.kind = .alarmReport id drop false) (s : State) :
    completeFrame f s = sentWhole s := by
  obtain kind | kind | ⟨id, drop, kind⟩ := kind <;> rw [completeFrame, kind] <;> rfl

theorem completeFrame_restartReply {f : Frame} (kind : f.kind = .restartReply) (s : State) :
    completeFrame f s = sentWhole s := by rw [completeFrame, kind]; rfl

/-- The entry of a report is told of its end (R138). -/
theorem completeFrame_alarmReport {f : Frame} {id : Byte} {drop : Nat} (kind : f.kind = .alarmReport id drop true)
    (s : State) : completeFrame f s = reportSent id (sentWhole s) := by rw [completeFrame, kind]; rfl

theorem completeFrame_chunk {f : Frame} (kind : f.kind = .chunk) (s : State) :
    completeFrame f s = chunkSent (sentWhole s) := by rw [completeFrame, kind]; rfl

/-- The end of the FINISHING readout's BULK_LAST completes it (R64, R172). -/
theorem chunkSent_completes {chunk : BulkChunk} {s : State} (buffered : s.transmit.bulk = some chunk)
    (last : chunk.last = true) (own : chunk.ofReadout = true) (finishing : s.readout.state = .finishing) :
    chunkSent s = completeReadout (emptyBuffer s) := by
  simp only [chunkSent, buffered, last, own, finishing, decide_true, Bool.and_true, if_true]

/-- The end of another chunk empties the buffer and no more (R64, R172). -/
theorem chunkSent_other {chunk : BulkChunk} {s : State} (buffered : s.transmit.bulk = some chunk)
    (other : ¬ (chunk.last = true ∧ chunk.ofReadout = true ∧ s.readout.state = .finishing)) :
    chunkSent s = emptyBuffer s := by
  simp only [chunkSent, buffered, Bool.and_eq_true, decide_eq_true_eq, and_assoc, if_neg other]

/-- A completed readout: its record is SEALED with READ, and the source is IDLE (R64). -/
theorem completeReadout_eq (s : State) :
    completeReadout s = { s with
      readout := resetReadout
      records := changeFirst (fun r => r.number == s.readout.record)
        (fun r => { r with state := .closed, flags := { r.flags with read := true } }) s.records } := by
  have changed := changeFirst_changeFirst (fun r : CaptureRecord => r.number == s.readout.record)
    (fun r => { r with flags := { r.flags with read := true } }) (fun r => { r with state := .closed }) s.records
    fun _ => rfl
  exact congrArg (fun l => { s with readout := resetReadout, records := l }) changed

/-! ## The boundary at the end of a frame (R174, R181) -/

/-- TX_CHARACTER_BOUNDARY after the last character of a frame, once the time left of it has passed (log 3). -/
theorem exec_boundary_finishes {pins : PinLevels} {s u : State} {just : Byte} {f : Frame} (finds : Finds s u)
    (line : u.transmit.line = some just) (no_abort : just ≠ 0xE5) (tail : u.transmit.tail = [])
    (sending : u.transmit.sending = some { frame := f, unsent := [] }) :
    exec (.txCharacterBoundary pins) s
      = .next (conclude (finishFrame f pins (elapse u.transmit.lineTime u))) := by
  have taken : exec (.txCharacterBoundary pins) s = .next (conclude (takeBoundary pins u)) :=
    congrArg Host.Outcome.next (takeEvent_finds _ finds)
  have boundary : takeBoundary pins u = finishFrame f pins (elapse u.transmit.lineTime u) := by
    simp only [takeBoundary, line, characterBoundary, elapse_transmit, tail, sending, charAbort, if_neg no_abort]
  rw [taken, boundary]

/-- After every frame but a Restart's reply the unit chooses (R174). -/
theorem finishFrame_chooses {f : Frame} (kind : f.kind ≠ .restartReply) (pins : PinLevels) (s : State) :
    finishFrame f pins s = chooseFrame (completeFrame f s) := by
  unfold finishFrame
  split
  · next e => exact absurd e kind
  all_goals rfl

theorem finishFrame_restartReply {f : Frame} (kind : f.kind = .restartReply) (pins : PinLevels) (s : State) :
    finishFrame f pins s = restartAfterReply pins (sentWhole s) := by
  rw [← completeFrame_restartReply kind, finishFrame, kind]

/-- Settles O20: the end of the frame by its kind, and by what is suspended under a Restart's reply. -/
theorem frameEndsGoToTheirOwners : Obligations.FrameEndsGoToTheirOwners := by
  rintro pins s u just f _ finds line no_abort tail sending rfl
  rw [exec_boundary_finishes finds line no_abort tail sending]
  refine ⟨fun kind => ?unheeded, fun id drop kind => ?report, fun chunk kind buffered other => ?chunk,
    fun chunk kind buffered last own finishing => ?complete, fun kind empty => ?restart, fun kind suspended => ?abort⟩
  case unheeded =>
    have other : f.kind ≠ .restartReply := by
      obtain kind | kind | ⟨id, drop, kind⟩ := kind <;> rw [kind] <;> nofun
    rw [finishFrame_chooses other, completeFrame_unheeded kind]
    rfl
  case report =>
    rw [finishFrame_chooses (by rw [kind]; nofun), completeFrame_alarmReport kind]
    rfl
  case chunk =>
    rw [finishFrame_chooses (by rw [kind]; nofun), completeFrame_chunk kind,
      chunkSent_other (s := sentWhole (elapse u.transmit.lineTime u)) buffered other]
    rfl
  case complete =>
    rw [finishFrame_chooses (by rw [kind]; nofun), completeFrame_chunk kind,
      chunkSent_completes (s := sentWhole (elapse u.transmit.lineTime u)) buffered last own finishing, completeReadout_eq]
    rfl
  case restart =>
    have alone : (sentWhole (elapse u.transmit.lineTime u)).transmit.suspended.isEmpty = true := List.isEmpty_iff.mpr empty
    rw [finishFrame_restartReply kind, restartAfterReply, if_pos alone, conclude_endReset]
    rfl
  case abort =>
    have beneath : ¬ (sentWhole (elapse u.transmit.lineTime u)).transmit.suspended.isEmpty = true :=
      fun empty => suspended (List.isEmpty_iff.mp empty)
    rw [finishFrame_restartReply kind, restartAfterReply, if_neg beneath]
    rfl

end Sys2Proof.Machine
end

section
/-! PROOFS. The break: the link reset step by step, and the reset right after a reply (R143, R166 to R168, R180, R188). -/

namespace Sys2Proof.Machine

/-! ## Entries replaced more than once -/

theorem put_put {α : Type} {n : Nat} (v : Vector α n) (k : Fin n) (x y : α) : put (put v k x) k y = put v k y := by
  simp [put]

theorem put_same {α : Type} {n : Nat} (v : Vector α n) (k : Fin n) : put v k v[k] = v := by simp [put]

theorem put_comm {α : Type} {n : Nat} (v : Vector α n) {j k : Fin n} (x y : α) (other : j ≠ k) :
    put (put v j x) k y = put (put v k y) j x :=
  Vector.set_comm x y fun e => other (Fin.ext e)

/-! ## The counts of a link reset (R147, R167) -/

theorem saturatingUp_ne_zero (n : Nat) : saturatingUp n ≠ 0 := by
  unfold saturatingUp
  split <;> omega

/-- Counters and held notices replaced. -/
def recounted (counters : Vector Counter 16) (notices : List Notice) (s : State) : State :=
  { s with counters := counters, dispatcher := { s.dispatcher with held := some notices } }

/-- The FAULT that several occurrences of a cause raise: at a first occurrence (R147). -/
def faultOfSome (id : CounterId) (n : Nat) (s : State) : List Notice :=
  if (counterOf s id).value = 0 ∧ 0 < n then [.fault id s.clock.timebase] else []

/-- Several occurrences while notices are held (R147, R148). -/
theorem countTimes_held {id : CounterId} (link : id ≠ .linkResets) (dropped : id ≠ .noticeDropped) (n : Nat) {s : State}
    {notices : List Notice} (held : s.dispatcher.held = some notices) :
    countTimes id n s = recounted
      (put s.counters (counterIndex id) { counterOf s id with value := saturatingUp^[n] (counterOf s id).value })
      (notices ++ faultOfSome id n s) s := by
  induction n generalizing s notices with
  | zero =>
    have same : put s.counters (counterIndex id) (counterOf s id) = s.counters := put_same _ _
    have none : faultOfSome id 0 s = [] := if_neg fun h => Nat.lt_irrefl 0 h.2
    rw [none, List.append_nil, Function.iterate_zero_apply, same, recounted, ← held]
    rfl
  | succ n ih =>
    have once : countUp id s = recounted
        (put s.counters (counterIndex id) { counterOf s id with value := saturatingUp (counterOf s id).value })
        (notices ++ firstFault id s) s := countUp_held link dropped held
    have counter : counterOf (countUp id s) id
        = { counterOf s id with value := saturatingUp (counterOf s id).value } := by
      rw [once]
      exact put_self _ _ _
    have later : faultOfSome id n (countUp id s) = [] := if_neg fun h => by
      rw [counter] at h
      exact saturatingUp_ne_zero _ h.1
    have first : faultOfSome id (n + 1) s = firstFault id s := by simp [faultOfSome, firstFault]
    rw [countTimes, ih (s := countUp id s) (notices := notices ++ firstFault id s) (by rw [once]; rfl), counter, later,
      List.append_nil, first, once]
    exact congrArg (fun counters => recounted counters _ s) (put_put _ _ _ _)

/-- LINK_RESETS rises; its mark is REPORTED from its first rise (R150). -/
theorem countUp_linkResets {s : State} {c : Counter} (counter : s.counters[(14 : Fin 16)] = c) :
    countUp .linkResets s = { s with
      counters := put s.counters 14
        { value := saturatingUp c.value, mark := if c.value = 0 then .reported else c.mark } } := by
  have standing : counterOf s .linkResets = c := counter
  by_cases first : c.value = 0
  · have rises : countUp .linkResets s = setMark .linkResets .reported (countOne .linkResets s) :=
      if_pos (by rw [standing, first])
    have counted : counterOf (countOne .linkResets s) .linkResets = { c with value := saturatingUp c.value } := by
      rw [← standing]
      exact put_self _ _ _
    rw [rises, setMark, counted, if_pos first]
    exact congrArg (fun counters => { s with counters := counters }) (put_put _ _ _ _)
  · have rises : countUp .linkResets s = countOne .linkResets s := if_neg (by rwa [standing])
    rw [rises, if_neg first, countOne, standing]
    rfl

/-! ## Notices into an emptied queue (R145, R150) -/

/-- The marks that notices leave when all of them are queued (R150). -/
def markedReported (notices : List Notice) (s : State) : State := notices.foldl (fun t n => markNotice n .reported t) s

theorem markedReported_cons (n : Notice) (rest : List Notice) (s : State) :
    markedReported (n :: rest) s = markedReported rest (markNotice n .reported s) := rfl

theorem markedReported_shape (notices : List Notice) (s : State) :
    ∃ cs, markedReported notices s = { s with counters := cs } := by
  induction notices generalizing s with
  | nil => exact ⟨_, rfl⟩
  | cons n rest ih =>
    obtain ⟨cs, marked⟩ := markNotice_shape n .reported s
    obtain ⟨cs', later⟩ := ih (markNotice n .reported s)
    exact ⟨cs', by rw [markedReported_cons, later, marked]⟩

theorem markedReported_queueNormal (notices : List Notice) (f : Frame) (s : State) :
    markedReported notices (queueNormal f s) = queueNormal f (markedReported notices s) := by
  induction notices generalizing s with
  | nil => rfl
  | cons n rest ih =>
    have marked : markNotice n .reported (queueNormal f s) = queueNormal f (markNotice n .reported s) := by cases n <;> rfl
    rw [markedReported_cons, marked, ih, markedReported_cons]

/-- Notices that find places enough are queued in their order (R145). -/
theorem offered_fits {notices : List Notice} {s : State} (room : s.transmit.normal.length + notices.length ≤ 6) :
    offered notices s = { markedReported notices s with
      transmit := { s.transmit with normal := s.transmit.normal ++ notices.map noticeFrame } } := by
  induction notices generalizing s with
  | nil => simp [offered, markedReported]
  | cons n rest ih =>
    obtain ⟨cs, marked⟩ := markNotice_shape n .reported s
    have fits : noticeFits s = true := decide_eq_true (by
      rw [List.length_cons] at room
      simp only [noticeReserve, normalTotal]
      omega)
    have queued : offerNotice n s = queueNormal (noticeFrame n) (markNotice n .reported s) := if_pos fits
    have transmit : (markNotice n .reported s).transmit = s.transmit := by rw [marked]
    have later := ih (s := queueNormal (noticeFrame n) (markNotice n .reported s)) (by
      rw [queueNormal_transmit, transmit]
      simp only [List.length_append, List.length_cons, List.length_nil] at room ⊢
      omega)
    rw [offered, List.foldl_cons, queued, ← offered, later, markedReported_queueNormal, queueNormal_transmit, transmit]
    simp only [List.append_assoc, List.singleton_append]
    rfl

/-! ## The steps of a link reset (R167, R168, R180) -/

/-- Step 2: the frames in transmission end, and an ABORT is to be sent when one is and none is under way. -/
theorem breakTransmitter_eq (s : State) :
    breakTransmitter s = { s with transmit := { s.transmit with
      sending := none, suspended := [], bulk := none
      tail := if inTransmission s && !aborting s then abortTail s else s.transmit.tail } } := by
  rw [breakTransmitter, tellAbort]
  cases inTransmission s <;> cases aborting s <;> rfl

/-- Step 4: the record of a readout is SEALED again. -/
theorem breakReadout_eq (s : State) :
    breakReadout s = { s with
      records := if s.readout.state = .idle then s.records
        else changeFirst (fun r => r.number == s.readout.record) (fun r => { r with state := .closed }) s.records
      readout := if s.readout.state = .idle then s.readout else resetReadout } := by
  rw [breakReadout]
  by_cases idle : s.readout.state = .idle
  · simp only [if_pos idle]
  · simp only [if_neg idle]
    rfl

/-- The part after steps 1 to 3 but for the count of the replies discarded, with notices held. -/
def linkEmptied (s : State) : State :=
  { s with
    receiver := { state := .hunt, content := [], expected := none, timer := none, breakMark := true }
    inbound := []
    transmit := { s.transmit with
      urgent := [], normal := [], sending := none, suspended := [], bulk := none
      tail := if inTransmission s && !aborting s then abortTail s else s.transmit.tail }
    alarms := s.alarms.map requeueAlarm
    dropCount := min 255 (s.dropCount + ((discardedFrames s).map carriedDrops).sum)
    dispatcher := { s.dispatcher with behind := 0, held := some [] } }

theorem breakQueues_eq (s : State) :
    breakQueues (discardedFrames s) (breakTransmitter (breakReceiver (holdNotices s)))
      = countTimes .replyDiscarded (lostReplies s) (linkEmptied s) := by
  rw [breakTransmitter_eq]
  rfl

/-- Steps 1 to 5: what stands before the announcements of step 6 (R167). -/
theorem clearLink_eq (s : State) :
    clearLink s = { afterLinkReset s with
      transmit := { (afterLinkReset s).transmit with normal := [] }
      counters := put
        (put s.counters 15 { s.counters[15] with value := saturatingUp^[lostReplies s] s.counters[15].value }) 14
        { value := saturatingUp s.counters[14].value
          mark := if s.counters[14].value = 0 then .reported else s.counters[14].mark }
      dispatcher := { s.dispatcher with
        behind := 0, held := some (faultOfSome .replyDiscarded (lostReplies s) s) }
      resetting := s.resetting } := by
  have other (x : Counter) : (put s.counters 15 x)[(14 : Fin 16)] = s.counters[14] := put_other _ _ _ _ (by decide)
  have counted := countTimes_held (id := .replyDiscarded) nofun nofun (lostReplies s) (s := linkEmptied s) rfl
  rw [clearLink, breakQueues_eq, counted, breakReadout_eq, countUp_linkResets (other _)]
  rfl

/-! ## The announcements of step 6 and a Restart that is awaited (R167, R168) -/

/-- A FAULT (REPLY_DISCARDED) that is queued leaves its mark (R150). -/
theorem markedReported_faultOfSome {n : Nat} {s t : State} {c : Counter} (counter : t.counters[(15 : Fin 16)] = c) :
    markedReported (faultOfSome .replyDiscarded n s) t
      = { t with
          counters := put t.counters 15
            { c with mark := if s.counters[15].value = 0 ∧ 0 < n then .reported else c.mark } } := by
  by_cases some : s.counters[15].value = 0 ∧ 0 < n
  · have fault : faultOfSome .replyDiscarded n s = [.fault .replyDiscarded s.clock.timebase] := if_pos some
    rw [fault, if_pos some, ← counter]
    rfl
  · have none : faultOfSome .replyDiscarded n s = [] := if_neg some
    rw [none, if_neg some, ← counter]
    exact congrArg (fun counters => { t with counters := counters }) (put_same t.counters (15 : Fin 16)).symm

theorem faultOfSome_length (id : CounterId) (n : Nat) (s : State) : (faultOfSome id n s).length ≤ 1 := by
  unfold faultOfSome
  split <;> simp

theorem brokenReadout_length (s : State) : (brokenReadout s).length ≤ 1 := by
  unfold brokenReadout
  split <;> simp

/-- RESTARTED and READOUT_ENDED mark no counter. -/
theorem markedReported_readout (s t : State) (rest : List Notice) :
    markedReported ((Notice.restarted .link :: brokenReadout s) ++ rest) t = markedReported rest t := by
  unfold brokenReadout
  split <;> rfl

/-- Step 6 (R167): the announcements find the NORMAL queue empty. -/
theorem announceLink_eq (s : State) :
    announceLink (brokenReadout s) (clearLink s) = { afterLinkReset s with resetting := s.resetting } := by
  have held : heldNotices (clearLink s) = faultOfSome .replyDiscarded (lostReplies s) s := by rw [clearLink_eq]; rfl
  have empty : (stopHolding (clearLink s)).transmit.normal = [] := by rw [clearLink_eq]; rfl
  have room : (stopHolding (clearLink s)).transmit.normal.length
      + ((Notice.restarted .link :: brokenReadout s) ++ faultOfSome .replyDiscarded (lostReplies s) s).length ≤ 6 := by
    have fault := faultOfSome_length .replyDiscarded (lostReplies s) s
    have readout := brokenReadout_length s
    rw [empty, List.length_append, List.length_cons, List.length_nil]
    omega
  have counter : (stopHolding (clearLink s)).counters[(15 : Fin 16)]
      = { s.counters[15] with value := saturatingUp^[lostReplies s] s.counters[15].value } := by
    rw [clearLink_eq]
    exact (put_other _ _ _ _ (by decide)).trans (put_self _ _ _)
  have remarked (x y z : Counter) : put (put (put s.counters 15 x) 14 y) 15 z = put (put s.counters 15 z) 14 y := by
    rw [put_comm _ _ _ (by decide), put_put]
  have announced : announceLink (brokenReadout s) (clearLink s)
      = offered ((Notice.restarted .link :: brokenReadout s) ++ faultOfSome .replyDiscarded (lostReplies s) s)
          (stopHolding (clearLink s)) := by rw [announceLink, held]; rfl
  rw [announced, offered_fits room, markedReported_readout, markedReported_faultOfSome counter, empty, clearLink_eq]
  exact congrArg (fun counters => { afterLinkReset s with resetting := s.resetting, counters := counters })
    (remarked _ _ _)

/-- An ABORT goes on through a link reset, or begins with it (R180). -/
theorem aborting_afterLinkReset {s : State} (h : inTransmission s = true ∨ aborting s = true) :
    aborting (afterLinkReset s) = true := by
  have some : (abortTail s).isEmpty = false := by
    unfold abortTail
    split <;> simp
  cases under_way : aborting s with
  | true =>
    have tail : (afterLinkReset s).transmit.tail = s.transmit.tail :=
      if_neg (by rw [under_way, Bool.not_true, Bool.and_false]; nofun)
    have stays : aborting (afterLinkReset s) = aborting s := by rw [aborting, tail]; rfl
    rw [stays, under_way]
  | false =>
    have begins : inTransmission s = true := h.resolve_right (by rw [under_way]; nofun)
    have tail : (afterLinkReset s).transmit.tail = abortTail s := if_pos (by rw [begins, under_way]; rfl)
    rw [aborting, tail, some]
    rfl

/-- The link reset where it is no restart at once (R167, R168). -/
theorem linkReset_eq (pins : PinLevels) {s : State} (calm : NoRestartAtOnce s) :
    linkReset pins s = afterLinkReset s := by
  rw [linkReset, announceLink_eq]
  cases discards : discardsRestart s with
  | false =>
    have kept : (afterLinkReset s).resetting = s.resetting := if_neg (by rw [discards]; nofun)
    rw [if_neg Bool.false_ne_true, ← kept]
  | true =>
    have aborts := aborting_afterLinkReset (calm.resolve_left (by rw [discards]; nofun))
    have awaited : (afterLinkReset s).resetting
        = { s.resetting with awaited := some (s.resetting.awaited.getD .restart) } := if_pos discards
    have restarts : aborting { afterLinkReset s with resetting := s.resetting } = true := aborts
    rw [if_pos rfl, restartAfterBreak, if_pos restarts, ← awaited]

end Sys2Proof.Machine
end

section
namespace Sys2Proof.Machine

/-! ## A reply that has just been queued (R171, R173) -/

/-- While a NORMAL frame is pending the choice reads neither the buffer nor anything outside the Transmit Unit. -/
theorem chooseFrame_pending {s t : State} {bulk : Option BulkChunk} (unit : t.transmit = { s.transmit with bulk := bulk })
    (pending : s.transmit.normal ≠ []) :
    chooseFrame t = { t with transmit := { (chooseFrame s).transmit with bulk := bulk } } := by
  obtain ⟨f, rest, normal⟩ := List.exists_cons_of_ne_nil pending
  have outranks (c : FrameClass) : outranksStack c t = outranksStack c s := by simp only [outranksStack, unit]
  have lower (c : FrameClass) (stays : outranksStack c s = false) :
      startLower t = { t with transmit := { (startLower s).transmit with bulk := bulk } } := by
    cases stack : s.transmit.suspended with
    | nil => simp [outranksStack, stack] at stays
    | cons top below => simp only [startLower, stack, resumeTop, sendCharacter, unit]
  cases queue : s.transmit.urgent with
  | cons g others =>
    cases higher : outranksStack .urgent s with
    | true => simp only [chooseFrame, queue, outranks, higher, if_true, startFrame, sendCharacter, unit]
    | false => simp only [chooseFrame, unit, queue, outranks, higher, Bool.false_eq_true, if_false, lower _ higher]
  | nil =>
    cases higher : outranksStack .normal s with
    | true => simp only [chooseFrame, queue, normal, outranks, higher, if_true, startFrame, sendCharacter, unit]
    | false =>
      simp only [chooseFrame, unit, queue, normal, outranks, higher, Bool.false_eq_true, if_false, lower _ higher]

/-- What a queued reply makes of the Transmit Unit does not depend on the rest of the part, nor on the buffer. -/
theorem withReply_unit (f : Frame) (s : State) :
    ∃ unit : TransmitUnit, ∀ (t : State) (bulk : Option BulkChunk) (d : Dispatcher),
      t.transmit = { s.transmit with bulk := bulk } → t.resetting = s.resetting →
      withReply f d t = { t with transmit := { unit with bulk := bulk }, dispatcher := d } := by
  by_cases idle : s.transmit.line = none ∧ s.resetting.awaited = none
  · refine ⟨(chooseFrame { s with transmit := { s.transmit with normal := s.transmit.normal ++ [f] } }).transmit,
      fun t bulk d unit resetting => ?_⟩
    have line : t.transmit.line = none := by rw [unit]; exact idle.1
    have awaited : t.resetting.awaited = none := by rw [resetting]; exact idle.2
    have decided : decideIdle { t with transmit := { t.transmit with normal := t.transmit.normal ++ [f] } }
        = chooseFrame { t with transmit := { t.transmit with normal := t.transmit.normal ++ [f] } } :=
      decideIdle_idle _ line awaited
    rw [withReply, decided, chooseFrame_pending
      (s := { s with transmit := { s.transmit with normal := s.transmit.normal ++ [f] } }) (bulk := bulk)
      (by rw [unit]) (by simp)]
  · refine ⟨{ s.transmit with normal := s.transmit.normal ++ [f] }, fun t bulk d unit resetting => ?_⟩
    have busy : t.transmit.line ≠ none ∨ t.resetting.awaited ≠ none := by
      rw [unit, resetting]
      exact not_and_or.mp idle
    have decided : decideIdle { t with transmit := { t.transmit with normal := t.transmit.normal ++ [f] } }
        = { t with transmit := { t.transmit with normal := t.transmit.normal ++ [f] } } := decideIdle_busy _ busy
    rw [withReply, decided, unit]

/-- The marks of notices are outside what a queued reply reads. -/
theorem markedReported_withReply (notices : List Notice) (f : Frame) (d : Dispatcher) (s : State) :
    markedReported notices (withReply f d s) = withReply f d (markedReported notices s) := by
  induction notices generalizing s with
  | nil => rfl
  | cons n rest ih =>
    obtain ⟨unit, queued⟩ := withReply_unit f s
    have marked : markNotice n .reported (withReply f d s) = withReply f d (markNotice n .reported s) := by
      cases n with
      | fault id time =>
        have before := queued (markNotice (.fault id time) .reported s) s.transmit.bulk d rfl rfl
        have after := queued s s.transmit.bulk d rfl rfl
        rw [before, after]
        rfl
      | _ => rfl
    rw [markedReported_cons, marked, ih, markedReported_cons]

/-- With the source IDLE a link reset finds nothing to do with the chunk in the buffer. -/
theorem afterLinkReset_withReply_bulk {f : Frame} {d : Dispatcher} {s : State} (idle : s.readout.state = .idle)
    (bulk : Option BulkChunk) :
    afterLinkReset (withReply f d { s with transmit := { s.transmit with bulk := bulk } })
      = afterLinkReset (withReply f d s) := by
  obtain ⟨unit, queued⟩ := withReply_unit f s
  have without := queued s s.transmit.bulk d rfl rfl
  have within := queued { s with transmit := { s.transmit with bulk := bulk } } bulk d rfl rfl
  rw [without, within]
  simp only [afterLinkReset, idle, if_true]
  rfl

/-- A reply, which is no Restart's, makes no restart at once of a link reset (R168). -/
theorem noRestartAtOnce_withReply {f : Frame} {d : Dispatcher} {s : State} (other : f.kind ≠ .restartReply)
    (calm : NoRestartAtOnce s) : NoRestartAtOnce (withReply f d s) := by
  by_cases idle : s.transmit.line = none ∧ s.resetting.awaited = none
  · have decided : decideIdle { s with transmit := { s.transmit with normal := s.transmit.normal ++ [f] } }
        = chooseFrame { s with transmit := { s.transmit with normal := s.transmit.normal ++ [f] } } :=
      decideIdle_idle _ idle.1 idle.2
    refine .inr (.inl ?_)
    rw [withReply, decided]
    obtain ⟨_, _, -, chosen⟩ | ⟨_, _, -, chosen⟩ | ⟨_, _, -, chosen⟩ | ⟨-, none, -⟩ :=
      chooseFrame_cases { s with transmit := { s.transmit with normal := s.transmit.normal ++ [f] } }
    · rw [chosen]; rfl
    · rw [chosen]; rfl
    · rw [chosen]; rfl
    · simp at none
  · have decided : decideIdle { s with transmit := { s.transmit with normal := s.transmit.normal ++ [f] } }
        = { s with transmit := { s.transmit with normal := s.transmit.normal ++ [f] } } :=
      decideIdle_busy _ (not_and_or.mp idle)
    rw [withReply, decided]
    refine calm.imp_left fun keeps => ?_
    simp only [discardsRestart, discardedFrames, framesInTransmission, List.any_append, List.any_cons, List.any_nil,
      Bool.or_eq_false_iff, decide_eq_false other] at keeps ⊢
    simpa using keeps

/-! ## The break (R166, R188) -/

theorem noRestartAtOnce_markedReported {notices : List Notice} {s : State} (calm : NoRestartAtOnce s) :
    NoRestartAtOnce (markedReported notices s) := by
  obtain ⟨cs, marked⟩ := markedReported_shape notices s
  rw [marked]
  exact calm

/-- An accepted request with the link reset right after its reply: the notices it holds count as queued (R168, R188). -/
theorem answerAccepted_broken {pins : PinLevels} {r : Request} {effect : State → State × List Byte} {s t : State}
    {data : List Byte} {notices : List Notice} (calm : NoRestartAtOnce t)
    (h : effect (holdNotices s) = ({ t with dispatcher := { t.dispatcher with held := some notices } }, data)) :
    answerAccepted (some pins) r effect s
      = { afterLinkReset (withReply (replyFrame r .ok data) t.dispatcher (markedReported notices t)) with
          dispatcher := { state := .free, behind := 0, held := none } } := by
  have reply : queueReply r .ok data { t with dispatcher := { t.dispatcher with held := some notices } }
      = withReply (replyFrame r .ok data) { t.dispatcher with held := some notices } t := by
    rw [queueReply_eq, withReply_dispatcher]
  have discarded : discardHeld (withReply (replyFrame r .ok data) { t.dispatcher with held := some notices } t)
      = withReply (replyFrame r .ok data) { t.dispatcher with held := none } (markedReported notices t) :=
    markedReported_withReply notices _ { t.dispatcher with held := none } t
  have still := noRestartAtOnce_withReply (f := replyFrame r .ok data) (d := { t.dispatcher with held := none }) nofun
    (noRestartAtOnce_markedReported (notices := notices) calm)
  rw [answerAccepted_cut pins r effect s _ data h, reply, discarded, linkReset_eq pins still]
  rfl

theorem exec_lineBreak {taken : LineBreak} {s u : State} (finds : Finds s u) :
    exec (.lineBreak taken) s = .next (conclude (takeBreak taken u)) := congrArg Host.Outcome.next (takeEvent_finds _ finds)

/-- A break first ends a frame that is being received (R166). -/
theorem takeBreak_alone {pins : PinLevels} {s : State} (clear : s.receiver.breakMark = false) :
    takeBreak { pins := pins, moment := .alone } s = linkReset pins (brokenInto s) := by
  rw [takeBreak, clear, if_neg Bool.false_ne_true, endBrokenFrame_eq s clear]

theorem takeBreak_afterReply {pins : PinLevels} {s : State} (clear : s.receiver.breakMark = false) :
    takeBreak { pins := pins, moment := .afterReply } s = interruptRequest pins (brokenInto s) := by
  rw [takeBreak, clear, if_neg Bool.false_ne_true, endBrokenFrame_eq s clear]

/-- With no request in execution the moment after its reply is no other moment (log 26). -/
theorem interruptRequest_none {pins : PinLevels} {s : State} (none : ∀ r, s.dispatcher.state ≠ .executing r) :
    interruptRequest pins s = linkReset pins s := by
  unfold interruptRequest
  split
  · next r executing => exact absurd executing (none r)
  all_goals rfl

theorem interruptRequest_executing {pins : PinLevels} {s : State} {r : Request}
    (executing : s.dispatcher.state = .executing r) : interruptRequest pins s = runRequest (some pins) r s := by
  rw [interruptRequest, executing]

/-- A Cancel Readout whose reply a break meets: READOUT_ENDED goes with it (log 26). -/
theorem runCancelReadout_broken {pins : PinLevels} {r : Request} {s : State} (calm : NoRestartAtOnce s)
    (payload : r.payload = []) (busy : s.readout.state ≠ .idle) :
    runCancelReadout (some pins) r s
      = { afterLinkReset (withReply (replyFrame r .ok []) s.dispatcher (releaseReadout s)) with
          dispatcher := { state := .free, behind := 0, held := none } } := by
  have verdict := cancelVerdict_eq (s := s) payload
  rw [if_neg busy] at verdict
  have ended := endReadout_cancelled (s := holdNotices s) rfl
  have answered := answerAccepted_broken (pins := pins) (r := r) (effect := fun t => (endReadout .cancelled t, []))
    (s := s) (t := readoutReleased s) calm (by rw [ended]; rfl)
  have chunk := afterLinkReset_withReply_bulk (f := replyFrame r .ok []) (d := s.dispatcher) (s := releaseReadout s) rfl
    (s.transmit.bulk.map fun c => { c with ofReadout := false })
  rw [runCancelReadout, verdict]
  exact answered.trans (congrArg
    (fun t => { t with dispatcher := { state := .free, behind := 0, held := none } }) chunk)

/-- A first occurrence whose FAULT is queued (R147, R150). -/
theorem markedReported_firstFault {id : CounterId} {s : State} (first : (counterOf s id).value = 0) :
    markedReported (firstFault id s) (countOne id s) = setCounter id { value := 1, mark := .reported } s := by
  have fault : firstFault id s = [.fault id s.clock.timebase] := if_pos first
  have counted : counterOf (countOne id s) id = { counterOf s id with value := 1 } := by
    rw [countOne, first]
    exact put_self _ _ _
  have marked : markedReported [.fault id s.clock.timebase] (countOne id s) = setMark id .reported (countOne id s) := rfl
  rw [fault, marked, setMark, counted]
  exact congrArg (fun counters => { s with counters := counters }) (put_put _ _ _ _)

/-- A Force Capture lost with the first OVERLAP, whose reply a break meets: its FAULT goes with it (log 26). -/
theorem runForceCapture_broken {pins : PinLevels} {p : Fin 4} {r : Request} {s : State} (calm : NoRestartAtOnce s)
    (payload : r.payload = [byteOf p.val]) (running : s.acquisition = .running) (usable : ProfileUsable p s)
    (none : s.openRecord[p] = none) (opening : openingStreams s.profiles[p] s = []) (first : s.counters[4].value = 0) :
    runForceCapture (some pins) r s
      = { afterLinkReset (withReply (replyFrame r .ok [0x02, 0, 0, 0x01]) s.dispatcher
            { s with counters := put s.counters 4 { value := 1, mark := .reported } }) with
          dispatcher := { state := .free, behind := 0, held := Option.none } } := by
  have verdict : (readByte 4 r.payload).bind (checkForce s) = .ok p := by
    rw [payload, forceVerdict_eq, unlessOk, if_pos (decide_eq_true running), unlessOk, if_pos (usableProfile_of usable)]
  have overlaps := decideTrigger_overlaps (t := forceTrigger p s) (s := holdNotices s) none opening
  have counted := countUp_held (id := .captureLostOverlap) (s := holdNotices s) (notices := []) nofun nofun rfl
  have answered := answerAccepted_broken (pins := pins) (r := r)
    (effect := fun t => ((decideTrigger (forceTrigger p t) t).1, outcomeData (decideTrigger (forceTrigger p t) t).2))
    (t := countOne .captureLostOverlap s) (data := outcomeData (.lost .overlap))
    (notices := firstFault .captureLostOverlap s) calm (by
      dsimp only
      rw [show forceTrigger p (holdNotices s) = forceTrigger p s from rfl, overlaps, counted]
      rfl)
  rw [markedReported_firstFault (id := .captureLostOverlap) first] at answered
  rw [runForceCapture, verdict]
  exact answered

/-- Settles O8: the link reset alone, and right after the replies of Cancel Readout and of Force Capture. -/
theorem breakResetsTheLink : Obligations.BreakResetsTheLink := by
  refine ⟨?alone, ?cancel, ?force⟩
  case alone =>
    rintro pins s u _ finds clear rfl calm
    refine ⟨?_, fun none => ?_⟩
    · rw [exec_lineBreak finds, takeBreak_alone clear, linkReset_eq pins calm]
    · rw [exec_lineBreak finds, takeBreak_afterReply clear, interruptRequest_none none, linkReset_eq pins calm]
  case cancel =>
    rintro pins r s u _ finds clear rfl calm executing type payload busy
    have served : runRequest (some pins) r (brokenInto u) = runCancelReadout (some pins) r (brokenInto u) := by
      rw [runRequest, type]
      rfl
    rw [exec_lineBreak finds, takeBreak_afterReply clear, interruptRequest_executing executing, served,
      runCancelReadout_broken calm payload busy]
    rfl
  case force =>
    rintro pins r p s u _ finds clear rfl calm executing type payload running usable none opening first
    have served : runRequest (some pins) r (brokenInto u) = runForceCapture (some pins) r (brokenInto u) := by
      rw [runRequest, type]
      rfl
    rw [exec_lineBreak finds, takeBreak_afterReply clear, interruptRequest_executing executing, served,
      runForceCapture_broken calm payload running usable none opening first]

end Sys2Proof.Machine
end

section
/-! PROOFS. Arming: what every operation keeps of the watches and the external trigger (R81, R88).
It is followed along the operations: the elementary changes do not say that a firing was due. -/

namespace Sys2Proof.Machine

/-! ## What an operation keeps of the arming -/

/-- The pieces of state that the arming rests on. -/
structure ArmsView where
  watches : Vector Watch 8
  external : ExternalTrigger
  acquisition : AcquisitionState

/-- What a state holds of them. -/
def armsView (s : State) : ArmsView :=
  { watches := s.watches, external := s.external, acquisition := s.acquisition }

/-- The invariant, kept from one state to another. -/
def KeepsArming (s t : State) : Prop := ArmedOnlyWhileRunning s → ArmedOnlyWhileRunning t

theorem keepsArming_refl (s : State) : KeepsArming s s := id

theorem keepsArming_trans {s t u : State} (a : KeepsArming s t) (b : KeepsArming t u) : KeepsArming s u := b ∘ a

/-- An operation on other pieces of state. -/
theorem keepsArming_of_arms {s t : State} (h : armsView t = armsView s) : KeepsArming s t := by
  have watches : t.watches = s.watches := congrArg ArmsView.watches h
  have external : t.external = s.external := congrArg ArmsView.external h
  have acquisition : t.acquisition = s.acquisition := congrArg ArmsView.acquisition h
  simp only [KeepsArming, ArmedOnlyWhileRunning, watches, external, acquisition, imp_self]

theorem keepsArming_reset {s t : State} (h : armsView t = armsView State.reset) : KeepsArming s t :=
  fun _ => keepsArming_of_arms h armedOnlyWhileRunning_reset

/-- Operations that keep the invariant keep it one after another. -/
theorem keepsArming_foldl {α : Type} (f : State → α → State) (h : ∀ a s, KeepsArming s (f s a)) (l : List α)
    (s : State) : KeepsArming s (l.foldl f s) := by
  induction l generalizing s with
  | nil => exact keepsArming_refl s
  | cons a rest ih => exact keepsArming_trans (h a s) (ih _)

theorem arms_foldl {α : Type} (f : State → α → State) (h : ∀ a s, armsView (f s a) = armsView s) (l : List α)
    (s : State) : armsView (l.foldl f s) = armsView s := by
  induction l generalizing s with
  | nil => rfl
  | cons a rest ih => exact (ih _).trans (h a s)

/-! ## Notices, frames and what follows an event -/

theorem offerNotice_arms (n : Notice) (s : State) : armsView (offerNotice n s) = armsView s := by
  obtain ⟨_, _, h, -⟩ := offerNotice_shape n s; rw [h]; rfl

theorem raiseNotice_arms (n : Notice) (s : State) : armsView (raiseNotice n s) = armsView s := by
  obtain ⟨_, _, _, h, -⟩ := raiseNotice_shape n s; rw [h]; rfl

theorem countUp_arms (id : CounterId) (s : State) : armsView (countUp id s) = armsView s := by
  obtain ⟨_, _, _, h, -⟩ := countUp_shape id s; rw [h]; rfl

theorem countTimes_arms (id : CounterId) (n : Nat) (s : State) : armsView (countTimes id n s) = armsView s := by
  induction n generalizing s with
  | zero => rfl
  | succ n ih => exact (ih _).trans (countUp_arms id s)

theorem chooseFrame_arms (s : State) : armsView (chooseFrame s) = armsView s := by
  obtain ⟨_, _, h⟩ := chooseFrame_shape s; rw [h]; rfl

theorem conclude_arms (s : State) : armsView (conclude s) = armsView s := by
  obtain ⟨_, _, _, _, _, _, h⟩ := conclude_shape s; rw [h]; rfl

theorem queueReplyFrame_arms (f : Frame) (s : State) : armsView (queueReplyFrame f s) = armsView s := by
  unfold queueReplyFrame decideIdle
  split
  · exact chooseFrame_arms (queueNormal f s)
  · rfl

theorem discardHeld_arms (s : State) : armsView (discardHeld s) = armsView s := by
  obtain ⟨_, h⟩ := discardHeld_shape s; rw [h]; rfl

theorem offerHeld_arms (s : State) : armsView (offerHeld s) = armsView s :=
  arms_foldl _ (fun n t => offerNotice_arms n t) _ (stopHolding s)

/-! ## Storing, closing and triggers (chapters 1 and 2) -/

theorem closeIfDone_arms (n : Nat) (s : State) : armsView (closeIfDone n s) = armsView s := by
  obtain ⟨_, _, _, _, _, h⟩ := closeIfDone_shape n s; rw [h]; rfl

theorem storeStage_arms (x : FilteredSample) (s : State) : armsView (storeStage x s) = armsView s := by
  unfold storeStage
  split
  · obtain ⟨_, _, h⟩ | h := ringStore_shape x.stream x.value s <;> rw [h]
    · rfl
    · exact countUp_arms _ s
  · next n _ =>
    obtain h | ⟨_, h⟩ | ⟨_, _, _, -, h⟩ | ⟨-, h⟩ := captureStore_cases n x.stream x.value s <;> rw [h]
    · rfl
    · rfl
    · exact (closeIfDone_arms n _).trans (countUp_arms _ _)
  · rfl

theorem decideTrigger_arms (t : Trigger) (s : State) : armsView (decideTrigger t s).1 = armsView s := by
  have opened : ∀ u : State, armsView (openRecordFor t u).1 = armsView u := fun u => by
    obtain ⟨_, _, _, _, h, -⟩ := openRecordFor_shape t u; rw [h]; rfl
  obtain ⟨n, -, h⟩ | h | h | ⟨-, h⟩ | ⟨r, -, h⟩ := decideTrigger_cases t s <;> rw [h]
  · rfl
  · exact countUp_arms _ s
  · exact countUp_arms _ s
  · exact opened s
  · obtain ⟨_, _, _, discarded⟩ := discardRecord_shape r.number s
    rw [opened, discarded]
    rfl

theorem takeTrigger_arms (t : Trigger) (s : State) : armsView (takeTrigger t s) = armsView s := by
  obtain h | ⟨-, -, h⟩ := takeTrigger_cases t s <;> rw [h]
  · rfl
  · exact decideTrigger_arms t s

theorem storeOutput_arms (k : Fin 16) (raw : RawSample) (s : State) : armsView (storeOutput k raw s) = armsView s := by
  have taken : armsView (takeStreamTriggers k s) = armsView s :=
    arms_foldl _ (fun x t => (conclude_arms _).trans (takeTrigger_arms x t)) _ _
  have made : armsView (makeOutput k raw (takeStreamTriggers k s)) = armsView (takeStreamTriggers k s) := by
    obtain h | h := makeOutput_cases k raw (takeStreamTriggers k s) <;> rw [h]
    · rfl
    · exact countUp_arms _ _
  exact (storeStage_arms _ _).trans (made.trans taken)

/-! ## Rounds (chapter 5) -/

theorem beginRound_arms (s : State) : armsView (beginRound s) = armsView s := by
  unfold beginRound; split <;> rfl

theorem startEvent_arms (s : State) : armsView (startEvent s) = armsView s := by
  unfold startEvent
  split
  · exact beginRound_arms s
  · exact countUp_arms _ s

theorem completeConversion_arms (start : Time) (k : Fin 16) (overdue : Int) (level : Nat) (s : State) :
    armsView (completeConversion start k overdue level s) = armsView s := by
  have drawn : armsView (drawRounding (slotOf k s) level s) = armsView s := by
    unfold drawRounding; split <;> rfl
  exact drawn

/-! ## Readouts, releases and alarms (chapters 3 and 8) -/

theorem endReadout_arms (reason : ReadoutEnd) (s : State) : armsView (endReadout reason s) = armsView s :=
  raiseNotice_arms _ (disownChunk (releaseReadout s))

theorem releaseRecord_arms (r : CaptureRecord) (s : State) : armsView (releaseRecord r s) = armsView s := by
  unfold releaseRecord
  split
  · exact endReadout_arms .released s
  · rfl

theorem takeAlarmRequest_arms (r : AlarmRequest) (s : State) : armsView (takeAlarmRequest r s) = armsView s := by
  unfold takeAlarmRequest
  split
  · rfl
  · exact countUp_arms _ s

theorem expireAcknowledgement_arms (e : AlarmEntry) (s : State) :
    armsView (expireAcknowledgement e s) = armsView s := by
  unfold expireAcknowledgement
  split
  · rfl
  · exact (countUp_arms _ _).trans (raiseNotice_arms _ (removeAlarm e.id s))

/-! ## The receiver and the link reset (chapter 9) -/

theorem framingError_arms (byOpen : Bool) (s : State) : armsView (framingError byOpen s) = armsView s :=
  countUp_arms _ _

theorem collectByte_arms (b : Byte) (s : State) : armsView (collectByte b s) = armsView s := by
  have offered : ∀ r t, armsView (offerRequest r t) = armsView t := fun r t => by
    unfold offerRequest
    split
    · rfl
    · exact countUp_arms _ t
  have checked : ∀ content t, armsView (checkFrame content t) = armsView t := fun content t => by
    unfold checkFrame
    dsimp only
    split
    · split
      · exact offered _ t
      · rfl
    · exact countUp_arms _ t
  unfold collectByte
  dsimp only
  split
  · exact checked _ (setReceiver _ s)
  · rfl

theorem takeInFrame_arms (c : RxCharacter) (s : State) : armsView (takeInFrame c s) = armsView s := by
  cases c with
  | good b =>
    simp only [takeInFrame]
    split
    · exact framingError_arms _ s
    · split
      · exact framingError_arms _ s
      · split
        · rfl
        · exact collectByte_arms b s
  | error => exact framingError_arms _ s
  | startedInReset => rfl

theorem takeEscaped_arms (c : RxCharacter) (s : State) : armsView (takeEscaped c s) = armsView s := by
  cases c with
  | good b =>
    simp only [takeEscaped]
    split
    · exact framingError_arms _ s
    · split
      · exact collectByte_arms _ s
      · exact framingError_arms _ s
  | error => exact framingError_arms _ s
  | startedInReset => rfl

theorem receiveCharacter_arms (c : RxCharacter) (s : State) : armsView (receiveCharacter c s) = armsView s := by
  unfold receiveCharacter
  split
  · rfl
  · split
    · cases c with
      | good b => simp only [takeInHunt]; split <;> rfl
      | error => rfl
      | startedInReset => rfl
    · exact takeInFrame_arms c s
    · exact takeEscaped_arms c s

theorem endBrokenFrame_arms (s : State) : armsView (endBrokenFrame s) = armsView s := by
  unfold endBrokenFrame
  split
  · rfl
  · exact (conclude_arms _).trans (receiveCharacter_arms _ s)
  · exact (conclude_arms _).trans (receiveCharacter_arms _ s)

theorem breakTransmitter_arms (s : State) : armsView (breakTransmitter s) = armsView s := by
  unfold breakTransmitter tellAbort
  split
  · split <;> rfl
  · rfl

theorem breakQueues_arms (discarded : List Frame) (s : State) : armsView (breakQueues discarded s) = armsView s := by
  unfold breakQueues
  rw [countTimes_arms]
  rfl

theorem breakReadout_arms (s : State) : armsView (breakReadout s) = armsView s := by
  unfold breakReadout; split <;> rfl

theorem clearLink_arms (s : State) : armsView (clearLink s) = armsView s := by
  unfold clearLink
  rw [countUp_arms, breakReadout_arms, breakQueues_arms, breakTransmitter_arms]
  rfl

theorem announceLink_arms (readout : List Notice) (s : State) : armsView (announceLink readout s) = armsView s :=
  arms_foldl _ (fun n t => offerNotice_arms n t) _ (stopHolding s)

end Sys2Proof.Machine
end

section
namespace Sys2Proof.Machine

/-! ## What becomes of one watch (R72 to R82) -/

theorem judge_passive {x : FilteredSample} {w : Watch} (h : w.state = .disarmed ∨ w.definition.stream ≠ x.stream) :
    judge x w = w := if_pos (by simpa using h)

theorem judge_active {x : FilteredSample} {w : Watch} (armed : w.state ≠ .disarmed)
    (stream : w.definition.stream = x.stream) : judge x w = { judged x w with previous := some x.value } :=
  if_neg (by simp [armed, stream])

theorem countQualifying_active (x : FilteredSample) {w : Watch} (armed : w.state ≠ .disarmed) :
    (countQualifying x w).definition = w.definition ∧ (countQualifying x w).state ≠ .disarmed := by
  unfold countQualifying
  split
  · exact ⟨rfl, nofun⟩
  · exact ⟨rfl, armed⟩

/-- A judgement changes no definition and disarms no watch (R73, R74, R77, R78). -/
theorem judged_active (x : FilteredSample) {w : Watch} (armed : w.state ≠ .disarmed) :
    (judged x w).definition = w.definition ∧ (judged x w).state ≠ .disarmed := by
  unfold judged
  split
  · next disarmed => exact absurd disarmed armed
  · split
    · exact countQualifying_active x armed
    · exact ⟨rfl, armed⟩
  · split
    · exact countQualifying_active x armed
    · exact ⟨rfl, nofun⟩
  · exact ⟨rfl, armed⟩
  · split
    · exact ⟨rfl, nofun⟩
    · exact ⟨rfl, armed⟩

theorem judge_armedSoundly (x : FilteredSample) {running : Prop} {w : Watch} (h : WatchArmedSoundly running w) :
    WatchArmedSoundly running (judge x w) := by
  by_cases passive : w.state = .disarmed ∨ w.definition.stream ≠ x.stream
  · rwa [judge_passive passive]
  · obtain ⟨armed, stream⟩ := not_or.mp passive
    obtain ⟨definition, state⟩ := judged_active x armed
    rw [judge_active armed (not_not.mp stream)]
    exact ⟨fun _ => definition ▸ h.1 armed, fun disarmed => absurd disarmed state⟩

/-- A watch whose firing is due is not DISARMED, and fires within its definition (R75). -/
theorem afterFiring_armedSoundly {running : Prop} {w : Watch} {x : FilteredSample} (due : w.firing = some x)
    (h : WatchArmedSoundly running w) : WatchArmedSoundly running (afterFiring w) := by
  have armed : w.state ≠ .disarmed := fun disarmed => by simpa [due] using h.2 disarmed
  exact ⟨fun _ => h.1 armed, fun _ => rfl⟩

theorem freshWatch_armedSoundly {running : Prop} {d : WatchDefinition} {state : WatchState}
    (h : state ≠ .disarmed → running ∧ d.enabled = true) : WatchArmedSoundly running (freshWatch d state) :=
  ⟨h, fun _ => rfl⟩

/-! ## The Watch Unit and the external trigger (R72 to R82, R86 to R88) -/

theorem setWatch_keepsArming {w : Fin 8} {x : Watch} {s : State}
    (h : WatchArmedSoundly (s.acquisition = .running) s.watches[w] → WatchArmedSoundly (s.acquisition = .running) x) :
    KeepsArming s (setWatch w x s) := by
  rintro ⟨watches, external⟩
  refine ⟨fun v => ?_, external⟩
  rw [setWatch_watches, put_get]
  split
  · exact h (watches w)
  · exact watches v

theorem evaluate_keepsArming (x : FilteredSample) (s : State) : KeepsArming s (evaluate x s) := by
  rintro ⟨watches, external⟩
  refine ⟨fun w => ?_, external⟩
  have judged : (evaluate x s).watches[w] = judge x s.watches[w] := by simp
  rw [judged]
  exact judge_armedSoundly x (watches w)

theorem endHoldoff_keepsArming (w : Fin 8) (s : State) : KeepsArming s (endHoldoff w s) := by
  unfold endHoldoff
  split
  · next due =>
    have holdoff : s.watches[w].state = .holdoff := of_decide_eq_true (Bool.and_eq_true_iff.mp due).1
    refine setWatch_keepsArming fun h => ⟨fun _ => h.1 ?_, nofun⟩
    rw [holdoff]
    nofun
  · exact keepsArming_refl s

theorem fireWatch_keepsArming (w : Fin 8) (s : State) : KeepsArming s (fireWatch w s) := by
  unfold fireWatch
  split
  · exact keepsArming_refl s
  · next x due =>
    obtain ⟨triggers, requests, sent⟩ := sendFiring_shape s.watches[w].definition.profile s.watches[w].definition.alarm
      (.watch w) x.time (some { stream := x.stream, index := x.index, value := x.value }) s
    rw [sent]
    exact setWatch_keepsArming (s := { s with triggers := triggers, alarmRequests := requests })
      fun h => afterFiring_armedSoundly due h

theorem settleWatches_keepsArming (s : State) : KeepsArming s (settleWatches s) :=
  keepsArming_foldl _ (fun w t => keepsArming_trans (endHoldoff_keepsArming w t) (fireWatch_keepsArming w _)) _ s

/-- An ARMED external trigger fires into HOLDOFF, or is ARMED again at once (R86, R87). -/
theorem fireExternal_keepsArming {s : State} (armed : s.external.state = .armed) : KeepsArming s (fireExternal s) := by
  rintro ⟨watches, external⟩
  obtain ⟨_, _, sent⟩ := sendFiring_shape s.external.definition.profile s.external.definition.alarm .external
    s.clock.timebase none s
  have sound := external (by rw [armed]; nofun)
  rw [fireExternal, sent]
  exact ⟨watches, fun _ => sound⟩

theorem takeTrigIn_keepsArming (edge : Edge) (s : State) : KeepsArming s (takeTrigIn edge s) := by
  unfold takeTrigIn
  split
  · exact keepsArming_refl s
  · dsimp only
    split
    · next fires =>
      have armed : s.external.state = .armed := of_decide_eq_true (Bool.and_eq_true_iff.mp fires).1
      exact fireExternal_keepsArming (s := { s with pins := { s.pins with trigIn := edgeLevel edge } }) armed
    · exact keepsArming_of_arms rfl

/-- Time that passes leaves the external trigger in its state (R87). -/
theorem elapse_keepsArming (units : Nat) (s : State) : KeepsArming s (elapse units s) := by
  rintro ⟨watches, external⟩
  refine ⟨watches, fun armed => external fun disarmed => armed ?_⟩
  rw [elapse_external, disarmed]
  rfl

theorem expireExternalHoldoff_keepsArming (s : State) : KeepsArming s (expireExternalHoldoff s) := by
  unfold expireExternalHoldoff
  split
  · next remaining holdoff =>
    rintro ⟨watches, external⟩
    exact ⟨watches, fun _ => external (by rw [holdoff]; nofun)⟩
  · exact keepsArming_refl s
  · exact keepsArming_refl s

/-! ## Start, Stop and the arrival at IDLE (R80, R81, R88, R125 to R130) -/

/-- Once everything is disarmed, acquisition may be in any state (R81). -/
theorem armedOnlyWhileRunning_disarmed (a : AcquisitionState) (s : State) :
    ArmedOnlyWhileRunning { disarmAll s with acquisition := a } := by
  refine ⟨fun w => ?_, fun armed => absurd rfl armed⟩
  have fresh : (disarmAll s).watches[w] = freshWatch s.watches[w].definition .disarmed := by simp [disarmAll]
  rw [fresh]
  exact freshWatch_armedSoundly fun armed => absurd rfl armed

theorem reachIdle_armed (reason : IdleReason) (s : State) : ArmedOnlyWhileRunning (reachIdle reason s) := by
  rw [reachIdle_eq]
  exact keepsArming_of_arms (raiseNotice_arms _ _)
    (keepsArming_of_arms (t := quieted s) rfl (armedOnlyWhileRunning_disarmed .idle s))

/-- Start arms what is enabled; what is not enabled was DISARMED (R80, R88). -/
theorem beginRun_keepsArming (s : State) : KeepsArming s (beginRun s) := by
  rintro ⟨watches, -⟩
  have rounds : ∀ t, armsView (startRounds t) = armsView t := fun t => by
    unfold startRounds
    split
    · exact beginRound_arms t
    · rfl
    · rfl
  rw [beginRun_eq]
  refine keepsArming_of_arms (rounds _) ⟨fun w => ?_, fun armed => ⟨rfl, ?_⟩⟩
  · have started : (s.watches.map armWatch)[w] = armWatch s.watches[w] := by simp
    show WatchArmedSoundly _ (s.watches.map armWatch)[w]
    rw [started, armWatch]
    split
    · next enabled => exact freshWatch_armedSoundly fun _ => ⟨rfl, enabled⟩
    · next disabled => exact ⟨fun armed => absurd ((watches w).1 armed).2 disabled, (watches w).2⟩
  · by_contra disabled
    exact armed (if_neg disabled)

theorem stopEffect_keepsArming (mode : Byte) (s : State) : KeepsArming s (stopEffect mode s) := by
  have gently : ArmedOnlyWhileRunning (stopGently s) := by
    unfold stopGently
    split
    · exact armedOnlyWhileRunning_disarmed .draining s
    · exact reachIdle_armed .drained _
  have now : ArmedOnlyWhileRunning (stopNow s) := reachIdle_armed .stopped _
  unfold stopEffect
  split
  · exact keepsArming_refl s
  · split
    · exact fun _ => gently
    · exact fun _ => now
  · split
    · exact keepsArming_refl s
    · exact fun _ => now

/-! ## Deliveries and the steps that follow at once (R8, R39 to R43, R119) -/

theorem endDrain_keepsArming (s : State) : KeepsArming s (endDrain s) := by
  unfold endDrain arriveIdle
  split
  · exact fun _ => reachIdle_armed .drained (deliverOutstanding s)
  · exact keepsArming_refl s

theorem reachPostCount_keepsArming (k : Fin 16) (s : State) : KeepsArming s (reachPostCount k s) := by
  unfold reachPostCount
  split
  · exact keepsArming_trans (keepsArming_of_arms (closeIfDone_arms _ (stopCollecting _ k s))) (endDrain_keepsArming _)
  · exact keepsArming_refl s

theorem settlePostCounts_keepsArming (s : State) : KeepsArming s (settlePostCounts s) := by
  refine keepsArming_foldl _ (fun k t => ?_) _ s
  unfold settlePostCount
  split
  · exact keepsArming_trans (reachPostCount_keepsArming k t) (keepsArming_of_arms (conclude_arms _))
  · exact keepsArming_refl t

theorem settle_keepsArming (s : State) : KeepsArming s (settle s) :=
  keepsArming_trans (settlePostCounts_keepsArming s) (settleWatches_keepsArming _)

theorem takeOutput_keepsArming (k : Fin 16) (s : State) : KeepsArming s (takeOutput k s) := by
  unfold takeOutput
  split
  · exact keepsArming_refl s
  · next raw _ =>
    exact keepsArming_trans (keepsArming_of_arms (storeOutput_arms k raw s))
      (keepsArming_trans (endDrain_keepsArming _) (evaluate_keepsArming _ _))

theorem takeDueOutput_keepsArming (k : Fin 16) (s : State) : KeepsArming s (takeDueOutput k s) := by
  unfold takeDueOutput
  split
  · exact keepsArming_trans (takeOutput_keepsArming k s)
      (keepsArming_trans (keepsArming_of_arms (conclude_arms _)) (settle_keepsArming _))
  · exact keepsArming_refl s

end Sys2Proof.Machine
end

section
namespace Sys2Proof.Machine

/-! ## Events whose time passes first (log 3) -/

theorem receiveTimeout_keepsArming (s : State) : KeepsArming s (receiveTimeout s) := by
  unfold receiveTimeout
  split
  · exact keepsArming_trans (elapse_keepsArming _ s) (keepsArming_of_arms (countUp_arms _ (setReceiver _ _)))
  · exact keepsArming_refl s

theorem expirePacer_keepsArming (s : State) : KeepsArming s (expirePacer s) := by
  unfold expirePacer
  split
  · exact keepsArming_trans (elapse_keepsArming _ s) (keepsArming_of_arms (startEvent_arms _))
  · exact keepsArming_refl s

theorem takeConversion_keepsArming (level : Nat) (s : State) : KeepsArming s (takeConversion level s) := by
  have finished : ∀ t, KeepsArming t (finishConversion level t) := fun t => by
    unfold finishConversion
    split
    · exact keepsArming_trans (elapse_keepsArming _ t) (keepsArming_of_arms (completeConversion_arms _ _ _ _ _))
    · exact keepsArming_refl t
  unfold takeConversion
  split
  · exact keepsArming_trans (takeDueOutput_keepsArming _ s) (finished _)
  · exact keepsArming_refl s

theorem takeConvIn_arms (edge : Edge) (s : State) : armsView (takeConvIn edge s) = armsView s := by
  unfold takeConvIn
  split
  · rfl
  · dsimp only
    split
    · exact startEvent_arms { s with pins := { s.pins with convIn := edgeLevel edge } }
    · rfl

theorem endTrigOutPulse_keepsArming (s : State) : KeepsArming s (endTrigOutPulse s) := by
  unfold endTrigOutPulse
  split
  · exact keepsArming_trans (elapse_keepsArming _ s) (keepsArming_of_arms rfl)
  · exact keepsArming_refl s

theorem takeTriggerAt_arms (position : Nat) (s : State) : armsView (takeTriggerAt position s) = armsView s := by
  unfold takeTriggerAt
  split
  · exact takeTrigger_arms _ { s with triggers := s.triggers.eraseIdx position }
  · rfl

theorem takeAlarmRequestAt_arms (position : Nat) (s : State) :
    armsView (takeAlarmRequestAt position s) = armsView s := by
  unfold takeAlarmRequestAt
  split
  · exact takeAlarmRequest_arms _ { s with alarmRequests := s.alarmRequests.eraseIdx position }
  · rfl

theorem takeAlarmExpiry_keepsArming (id : Byte) (s : State) : KeepsArming s (takeAlarmExpiry id s) := by
  unfold takeAlarmExpiry
  split
  · split
    · exact keepsArming_trans (elapse_keepsArming _ s) (keepsArming_of_arms (expireAcknowledgement_arms _ _))
    · exact keepsArming_refl s
    · exact keepsArming_refl s
  · exact keepsArming_refl s

/-! ## Resets and boundaries (R146, R168, R181, R221, chapter 10) -/

theorem endReset_keepsArming (cause : RestartCause) (pins : PinLevels) (s : State) :
    KeepsArming s (endReset cause pins s) := keepsArming_reset (raiseNotice_arms _ _)

theorem enterReset_keepsArming (s : State) : KeepsArming s (enterReset s) := keepsArming_reset rfl

theorem restartAfterBreak_keepsArming (pins : PinLevels) (s : State) : KeepsArming s (restartAfterBreak pins s) := by
  unfold restartAfterBreak
  split
  · exact keepsArming_of_arms rfl
  · exact endReset_keepsArming .request pins s

theorem linkReset_keepsArming (pins : PinLevels) (s : State) : KeepsArming s (linkReset pins s) := by
  have cleared : KeepsArming s (announceLink (brokenReadout s) (clearLink s)) :=
    keepsArming_of_arms ((announceLink_arms _ _).trans (clearLink_arms s))
  unfold linkReset
  dsimp only
  split
  · exact keepsArming_trans cleared (restartAfterBreak_keepsArming pins _)
  · exact cleared

theorem takePinReset_keepsArming (s : State) : KeepsArming s (takePinReset s) := by
  unfold takePinReset
  split
  · exact keepsArming_of_arms (by unfold tellAbort; split <;> rfl)
  · exact enterReset_keepsArming s

theorem completeFrame_arms (f : Frame) (s : State) : armsView (completeFrame f s) = armsView s := by
  have chunk : ∀ t, armsView (chunkSent t) = armsView t := fun t => by
    unfold chunkSent
    split
    · split <;> rfl
    · rfl
  unfold completeFrame
  dsimp only
  split
  · split <;> rfl
  · exact chunk { s with transmit := { s.transmit with sending := none } }
  · rfl
  · rfl
  · rfl

theorem finishFrame_keepsArming (f : Frame) (pins : PinLevels) (s : State) : KeepsArming s (finishFrame f pins s) := by
  have completed := completeFrame_arms f s
  by_cases kind : f.kind = .restartReply
  · rw [finishFrame_restartReply kind]
    unfold restartAfterReply
    split
    · exact keepsArming_trans (t := sentWhole s) (keepsArming_of_arms rfl) (endReset_keepsArming .request pins _)
    · exact keepsArming_of_arms rfl
  · rw [finishFrame_chooses kind]
    exact keepsArming_of_arms ((chooseFrame_arms _).trans completed)

theorem abortSent_keepsArming (pins : PinLevels) (s : State) : KeepsArming s (abortSent pins s) := by
  unfold abortSent
  split
  · split
    · exact enterReset_keepsArming s
    · exact endReset_keepsArming .pin pins s
  · exact endReset_keepsArming .request pins s
  · exact keepsArming_of_arms (chooseFrame_arms s)

theorem takeBoundary_keepsArming (pins : PinLevels) (s : State) : KeepsArming s (takeBoundary pins s) := by
  have boundary : ∀ just t, KeepsArming t (characterBoundary just pins t) := fun just t => by
    unfold characterBoundary continueFrame
    split
    · exact keepsArming_of_arms rfl
    · split
      · exact abortSent_keepsArming pins t
      · split
        · split
          · exact keepsArming_of_arms (by split <;> rfl)
          · exact finishFrame_keepsArming _ pins t
        · exact keepsArming_of_arms (chooseFrame_arms t)
  unfold takeBoundary
  split
  · exact keepsArming_trans (elapse_keepsArming _ s) (boundary _ _)
  · exact keepsArming_refl s

/-! ## Requests (R184 to R188) -/

theorem acknowledge_arms (id : Byte) (s : State) : armsView (acknowledge id s) = armsView s := by
  unfold acknowledge removeAlarm orphanReport withdrawReport addDrops; rfl

theorem afterReply_keepsArming (cut : Option PinLevels) (s : State) : KeepsArming s (afterReply cut s) := by
  cases cut with
  | none => exact keepsArming_refl s
  | some pins => exact keepsArming_trans (keepsArming_of_arms (discardHeld_arms s)) (linkReset_keepsArming pins _)

theorem offerOrCut_keepsArming (cut : Option PinLevels) (s : State) : KeepsArming s (offerOrCut cut s) := by
  cases cut with
  | none => exact keepsArming_of_arms (offerHeld_arms s)
  | some pins => exact afterReply_keepsArming (some pins) s

theorem answerRefused_keepsArming (cut : Option PinLevels) (r : Request) (e : Refused) (s : State) :
    KeepsArming s (answerRefused cut r e s) :=
  keepsArming_trans (keepsArming_of_arms (queueReplyFrame_arms _ s)) (afterReply_keepsArming cut _)

/-- A request whose effect keeps the invariant keeps it, with its reply, its notices and a break (R184, R188). -/
theorem answer_keepsArming {α : Type} (cut : Option PinLevels) (r : Request) (verdict : Verdict α)
    (effect : α → State → State × List Byte) (s : State) (h : ∀ a t, KeepsArming t (effect a t).1) :
    KeepsArming s (answer cut r verdict effect s) := by
  cases verdict with
  | error e => exact answerRefused_keepsArming cut r e s
  | ok a =>
    have done : KeepsArming s (effect a (holdNotices s)).1 :=
      keepsArming_trans (t := holdNotices s) (keepsArming_of_arms rfl) (h a (holdNotices s))
    exact keepsArming_trans done
      (keepsArming_trans (keepsArming_of_arms (queueReplyFrame_arms _ _)) (offerOrCut_keepsArming cut _))

/-- A request that touches other pieces of state. -/
theorem answer_keepsArming_of_arms {α : Type} (cut : Option PinLevels) (r : Request) (verdict : Verdict α)
    (effect : α → State → State × List Byte) (s : State) (h : ∀ a t, armsView (effect a t).1 = armsView t) :
    KeepsArming s (answer cut r verdict effect s) :=
  answer_keepsArming cut r verdict effect s fun a t => keepsArming_of_arms (h a t)

section

variable (cut : Option PinLevels) (r : Request) (s : State)

theorem runReadCounters_keepsArming : KeepsArming s (runReadCounters cut r s) :=
  answer_keepsArming_of_arms cut r _ _ s fun clear t => by dsimp only; split <;> rfl

theorem runRestart_keepsArming : KeepsArming s (runRestart cut r s) := by
  unfold runRestart
  split
  · exact answerRefused_keepsArming cut r _ s
  · refine keepsArming_trans (keepsArming_of_arms ?_) (afterReply_keepsArming cut _)
    exact queueReplyFrame_arms _ s

/-- An edit arms a watch only while RUNNING and enabled (R82). -/
theorem runConfigureWatch_keepsArming : KeepsArming s (runConfigureWatch cut r s) :=
  answer_keepsArming cut r _ _ s fun v t => setWatch_keepsArming fun _ => freshWatch_armedSoundly fun armed => by
    by_contra refused
    exact armed (if_neg (by simpa using refused))

theorem runConfigureExternal_keepsArming : KeepsArming s (runConfigureExternal cut r s) :=
  answer_keepsArming cut r _ _ s fun d t => fun ⟨watches, _⟩ => ⟨watches, fun armed => by
    by_contra refused
    have refused : ¬ (t.acquisition = .running ∧ d.enabled = true) := refused
    exact armed (if_neg (by simpa using refused))⟩

theorem runStart_keepsArming : KeepsArming s (runStart cut r s) := by
  unfold runStart
  refine answer_keepsArming cut r _ _ s fun _ t => ?_
  dsimp only
  exact beginRun_keepsArming t

theorem runStop_keepsArming : KeepsArming s (runStop cut r s) := by
  have before : KeepsArming s (beforeStop (readStop r.payload) s) := by
    unfold beforeStop
    split
    · split
      · exact keepsArming_foldl _ (fun k t => takeDueOutput_keepsArming k t) allStreams s
      · exact keepsArming_refl s
    · exact keepsArming_refl s
  exact keepsArming_trans before (answer_keepsArming cut r _ _ _ fun mode t => stopEffect_keepsArming mode t)

theorem runForceCapture_keepsArming : KeepsArming s (runForceCapture cut r s) :=
  answer_keepsArming_of_arms cut r _ _ s fun p t => decideTrigger_arms (forceTrigger p t) t

theorem runReleaseAllSealed_keepsArming : KeepsArming s (runReleaseAllSealed cut r s) :=
  answer_keepsArming_of_arms cut r _ _ s fun _ t =>
    arms_foldl (fun t n => removeRecord n t) (fun _ _ => rfl) (sealedNumbers t) t

/-- Every request, by its type (R185). -/
theorem runRequest_keepsArming : KeepsArming s (runRequest cut r s) := by
  unfold runRequest
  split
  · exact answer_keepsArming_of_arms cut r _ _ s fun _ _ => rfl
  · exact answer_keepsArming_of_arms cut r _ _ s fun _ _ => rfl
  · exact runReadCounters_keepsArming cut r s
  · exact answer_keepsArming_of_arms cut r _ _ s fun _ _ => rfl
  · exact runRestart_keepsArming cut r s
  · exact answer_keepsArming_of_arms cut r _ _ s fun _ _ => rfl
  · exact answer_keepsArming_of_arms cut r _ _ s fun _ _ => rfl
  · exact answer_keepsArming_of_arms cut r _ _ s fun _ _ => rfl
  · exact answer_keepsArming_of_arms cut r _ _ s fun _ _ => rfl
  · exact runConfigureWatch_keepsArming cut r s
  · exact runConfigureExternal_keepsArming cut r s
  · exact answer_keepsArming_of_arms cut r _ _ s fun _ _ => rfl
  · exact answer_keepsArming_of_arms cut r _ _ s fun _ _ => rfl
  · exact runStart_keepsArming cut r s
  · exact runStop_keepsArming cut r s
  · exact answer_keepsArming_of_arms cut r _ _ s fun _ t => beginRound_arms t
  · exact runForceCapture_keepsArming cut r s
  · exact answer_keepsArming_of_arms cut r _ _ s fun _ _ => rfl
  · exact answer_keepsArming_of_arms cut r _ _ s fun _ _ => rfl
  · exact answer_keepsArming_of_arms cut r _ _ s fun _ t => endReadout_arms .cancelled t
  · exact answer_keepsArming_of_arms cut r _ _ s fun x t => releaseRecord_arms x t
  · exact runReleaseAllSealed_keepsArming cut r s
  · exact answer_keepsArming_of_arms cut r _ _ s fun id t => acknowledge_arms id t
  · exact answerRefused_keepsArming cut r _ s

end

theorem takeBreak_keepsArming (taken : LineBreak) (s : State) : KeepsArming s (takeBreak taken s) := by
  have ended := keepsArming_of_arms (endBrokenFrame_arms s)
  unfold takeBreak interruptRequest
  split
  · exact keepsArming_refl s
  · split
    · exact keepsArming_trans ended (linkReset_keepsArming _ _)
    · split
      · exact keepsArming_trans ended (runRequest_keepsArming _ _ _)
      · exact keepsArming_trans ended (linkReset_keepsArming _ _)
      · exact keepsArming_trans ended (linkReset_keepsArming _ _)

end Sys2Proof.Machine
end

section
namespace Sys2Proof.Machine

/-! ## Commands and steps -/

/-- An event that keeps the invariant keeps it with the due steps before it and what follows it (logs 1, 11 to 13). -/
theorem takeEvent_keepsArming {event : State → State} (h : ∀ s, KeepsArming s (event s)) (s : State) :
    KeepsArming s (takeEvent event s) := by
  unfold takeEvent
  split
  · exact keepsArming_refl s
  · exact keepsArming_trans (settle_keepsArming s) (keepsArming_trans (h _) (keepsArming_of_arms (conclude_arms _)))

theorem takeDueStep_keepsArming {event : State → State} (h : ∀ s, KeepsArming s (event s)) (s : State) :
    KeepsArming s (takeDueStep event s) := by
  unfold takeDueStep
  split
  · exact keepsArming_refl s
  · exact keepsArming_trans (h s) (keepsArming_of_arms (conclude_arms _))

/-- An answer keeps the invariant. -/
abbrev AnswerKeepsArming (s : State) (o : Host.Outcome State Fault Refusal) : Prop := ∀ t, o = .next t → KeepsArming s t

theorem answerKeepsArming_next {s t : State} (h : KeepsArming s t) : AnswerKeepsArming s (.next t) := by
  rintro _ ⟨rfl⟩
  exact h

theorem answerKeepsArming_event {event : State → State} (h : ∀ s, KeepsArming s (event s)) (s : State) :
    AnswerKeepsArming s (.next (takeEvent event s)) := answerKeepsArming_next (takeEvent_keepsArming h s)

theorem answerKeepsArming_arms {event : State → State} (h : ∀ s, armsView (event s) = armsView s) (s : State) :
    AnswerKeepsArming s (.next (takeEvent event s)) := answerKeepsArming_event (fun t => keepsArming_of_arms (h t)) s

theorem answerKeepsArming_dueStep {event : State → State} (h : ∀ s, KeepsArming s (event s)) (s : State) :
    AnswerKeepsArming s (.next (takeDueStep event s)) := answerKeepsArming_next (takeDueStep_keepsArming h s)

theorem answerKeepsArming_request (serves : Request → Bool) {run : Request → State → State}
    (h : ∀ r s, KeepsArming s (run r s)) (s : State) :
    AnswerKeepsArming s (.next (takeEvent (carryOut serves run) s)) := by
  refine answerKeepsArming_event (fun t => ?_) s
  unfold carryOut
  split
  · split
    · exact h _ t
    · exact keepsArming_refl t
  · exact keepsArming_refl t
  · exact keepsArming_refl t

/-- A request that touches other pieces of state. -/
theorem answerKeepsArming_quietRequest {α : Type} (serves : Request → Bool) (verdict : Request → State → Verdict α)
    (effect : Request → α → State → State × List Byte) (h : ∀ r a t, armsView (effect r a t).1 = armsView t)
    (s : State) :
    AnswerKeepsArming s (.next (takeEvent (carryOut serves fun r t => answer none r (verdict r t) (effect r) t) s)) :=
  answerKeepsArming_request serves (fun r t => answer_keepsArming_of_arms none r _ _ t (h r)) s

theorem endReset_conclude_keepsArming (cause : RestartCause) (pins : PinLevels) (s : State) :
    KeepsArming s (conclude (endReset cause pins s)) :=
  keepsArming_trans (endReset_keepsArming cause pins s) (keepsArming_of_arms (conclude_arms _))

/-- Every command keeps the arming behind RUNNING (R81, R88). -/
theorem exec_keepsArming (i : Instr) (s : State) : AnswerKeepsArming s (exec i s) := by
  cases i with
  | powerOnReset pins => exact answerKeepsArming_next (endReset_conclude_keepsArming .power pins s)
  | pinReset => exact answerKeepsArming_event takePinReset_keepsArming s
  | pinResetEnd pins =>
    show AnswerKeepsArming s (execPinResetEnd pins s)
    unfold execPinResetEnd
    split
    · exact answerKeepsArming_next (endReset_conclude_keepsArming .pin pins s)
    · exact answerKeepsArming_arms (event := raiseResetPin) (fun _ => rfl) s
  | lineBreak taken => exact answerKeepsArming_event (takeBreak_keepsArming taken) s
  | lineBreakEnd => exact answerKeepsArming_arms (event := clearBreakMark) (fun _ => rfl) s
  | rxCharacter c => exact answerKeepsArming_arms (receiveCharacter_arms c) s
  | interCharacterTimeout => exact answerKeepsArming_event receiveTimeout_keepsArming s
  | txCharacterBoundary pins => exact answerKeepsArming_event (takeBoundary_keepsArming pins) s
  | pacerExpiry => exact answerKeepsArming_event expirePacer_keepsArming s
  | convInEdge edge => exact answerKeepsArming_arms (takeConvIn_arms edge) s
  | conversionComplete level => exact answerKeepsArming_event (takeConversion_keepsArming level) s
  | decimationOutput k => exact answerKeepsArming_event (takeOutput_keepsArming k) s
  | postCountReached k => exact answerKeepsArming_dueStep (reachPostCount_keepsArming k) s
  | watchFire w =>
    exact answerKeepsArming_dueStep (event := takeWatchFire w)
      (fun t => keepsArming_trans (settlePostCounts_keepsArming t) (fireWatch_keepsArming w _)) s
  | watchHoldoffEnd w =>
    exact answerKeepsArming_dueStep (event := takeHoldoffEnd w)
      (fun t => keepsArming_trans (settlePostCounts_keepsArming t) (endHoldoff_keepsArming w _)) s
  | trigInEdge edge => exact answerKeepsArming_event (takeTrigIn_keepsArming edge) s
  | externalHoldoffExpiry => exact answerKeepsArming_event expireExternalHoldoff_keepsArming s
  | trigOutPulseEnd => exact answerKeepsArming_event endTrigOutPulse_keepsArming s
  | trigger position => exact answerKeepsArming_arms (takeTriggerAt_arms position) s
  | alarmRequest position => exact answerKeepsArming_arms (takeAlarmRequestAt_arms position) s
  | acknowledgementTimerExpiry id => exact answerKeepsArming_event (takeAlarmExpiry_keepsArming id) s
  | identify => exact answerKeepsArming_quietRequest _ _ _ (fun _ _ _ => rfl) s
  | getStatus => exact answerKeepsArming_quietRequest _ _ _ (fun _ _ _ => rfl) s
  | readCounters => exact answerKeepsArming_request _ (runReadCounters_keepsArming none) s
  | readCountersClear => exact answerKeepsArming_request _ (runReadCounters_keepsArming none) s
  | setTime => exact answerKeepsArming_quietRequest _ _ _ (fun _ _ _ => rfl) s
  | restart => exact answerKeepsArming_request _ (runRestart_keepsArming none) s
  | configureScan => exact answerKeepsArming_quietRequest _ _ _ (fun _ _ _ => rfl) s
  | configureStream => exact answerKeepsArming_quietRequest _ _ _ (fun _ _ _ => rfl) s
  | loadCoefficients => exact answerKeepsArming_quietRequest _ _ _ (fun _ _ _ => rfl) s
  | configureProfile => exact answerKeepsArming_quietRequest _ _ _ (fun _ _ _ => rfl) s
  | configureWatch => exact answerKeepsArming_request _ (runConfigureWatch_keepsArming none) s
  | configureExternalTrigger => exact answerKeepsArming_request _ (runConfigureExternal_keepsArming none) s
  | configureAcquisition => exact answerKeepsArming_quietRequest _ _ _ (fun _ _ _ => rfl) s
  | readConfiguration => exact answerKeepsArming_quietRequest _ _ _ (fun _ _ _ => rfl) s
  | startAcquisition => exact answerKeepsArming_request _ (runStart_keepsArming none) s
  | stopGraceful => exact answerKeepsArming_request _ (runStop_keepsArming none) s
  | stopImmediate => exact answerKeepsArming_request _ (runStop_keepsArming none) s
  | convertOnce => exact answerKeepsArming_quietRequest _ _ _ (fun _ _ t => beginRound_arms t) s
  | forceCapture => exact answerKeepsArming_request _ (runForceCapture_keepsArming none) s
  | listRecords => exact answerKeepsArming_quietRequest _ _ _ (fun _ _ _ => rfl) s
  | readRecord => exact answerKeepsArming_quietRequest _ _ _ (fun _ _ _ => rfl) s
  | cancelReadout => exact answerKeepsArming_quietRequest _ _ _ (fun _ _ t => endReadout_arms .cancelled t) s
  | releaseRecord => exact answerKeepsArming_quietRequest _ _ _ (fun _ x t => releaseRecord_arms x t) s
  | releaseAllSealed => exact answerKeepsArming_request _ (runReleaseAllSealed_keepsArming none) s
  | acknowledgeAlarm => exact answerKeepsArming_quietRequest _ _ _ (fun _ id t => acknowledge_arms id t) s
  | unknownRequest => exact answerKeepsArming_request _ (fun r t => answerRefused_keepsArming none r _ t) s

/-- Settles O57: what arms is RUNNING and enabled, and what leaves RUNNING disarms everything. -/
theorem armingFollowsAcquisition : Obligations.ArmingFollowsAcquisition := by
  intro s t armed stepped
  unfold step at stepped
  split at stepped
  · next c rest _ =>
    exact exec_keepsArming c _ t stepped (keepsArming_of_arms (t := { s with pending := rest }) rfl armed)
  · obtain rfl : passMicrosecond s = t := by injection stepped
    unfold passMicrosecond
    split
    · exact armed
    · exact keepsArming_of_arms (conclude_arms _) (elapse_keepsArming _ _ (settle_keepsArming s armed))

end Sys2Proof.Machine
end

section
/-! PROOFS. The watches and the external trigger, one event at a time (chapter 4). -/

namespace Sys2Proof.Machine

/-! ## Conditions (R71, R78) -/

/-- The firing condition, as the manual words it: a STEP watch needs a previous sample (R71). -/
def MeetsCondition (d : WatchDefinition) (previous : Option Sample) (v : Int) : Prop :=
  match d.kind with
  | .above => v > d.high.toInt
  | .below => v < d.low.toInt
  | .outside => v > d.high.toInt ∨ v < d.low.toInt
  | .step => ∃ p, previous = some p ∧ |v - p.toInt| > d.high.toInt

/-- The re-arm condition, as the manual words it (R78). -/
def MeetsRearm (d : WatchDefinition) (previous : Option Sample) (v : Int) : Prop :=
  match d.kind with
  | .above => v ≤ d.high.toInt - d.hysteresis
  | .below => d.low.toInt + d.hysteresis ≤ v
  | .outside => v ≤ d.high.toInt - d.hysteresis ∧ d.low.toInt + d.hysteresis ≤ v
  | .step => ∃ p, previous = some p ∧ |v - p.toInt| ≤ d.high.toInt - d.hysteresis

theorem qualifies_iff (d : WatchDefinition) (previous : Option Sample) (x : Sample) :
    qualifies d previous x = some true ↔ MeetsCondition d previous x.toInt := by
  unfold qualifies MeetsCondition
  cases d.kind <;> simp [stepSize]

theorem rearms_iff (d : WatchDefinition) (previous : Option Sample) (x : Sample) :
    rearms d previous x = true ↔ MeetsRearm d previous x.toInt := by
  unfold rearms MeetsRearm
  cases d.kind with
  | step =>
    cases previous with
    | none => simp
    | some p => exact decide_eq_true_iff.trans ⟨fun h => ⟨p, rfl, h⟩, fun ⟨_, e, h⟩ => Option.some.inj e ▸ h⟩
  | above => simp
  | below => simp
  | outside => simp

/-! ## Judgement (R72 to R74, R77, R78) -/

section

variable {x : FilteredSample} {w : Watch}

theorem judged_meets (state : w.state = .armed ∨ w.state = .qualifying)
    (meets : MeetsCondition w.definition w.previous x.value.toInt) : judged x w = countQualifying x w := by
  have qualified := (qualifies_iff w.definition w.previous x.value).mpr meets
  obtain state | state := state <;> rw [judged, state] <;> exact if_pos qualified

theorem countQualifying_below (more : w.qualifyCount + 1 < w.definition.qualify) :
    countQualifying x w = { w with state := .qualifying, qualifyCount := w.qualifyCount + 1 } := if_pos more

theorem countQualifying_reached (enough : w.definition.qualify ≤ w.qualifyCount + 1) :
    countQualifying x w = { w with qualifyCount := w.qualifyCount + 1, firing := some x } :=
  if_neg (Nat.not_lt.mpr enough)

theorem judged_armed_fails (state : w.state = .armed)
    (fails : ¬ MeetsCondition w.definition w.previous x.value.toInt) : judged x w = w := by
  rw [judged, state]
  exact if_neg (mt (qualifies_iff _ _ _).mp fails)

theorem judged_qualifying_fails (state : w.state = .qualifying)
    (fails : ¬ MeetsCondition w.definition w.previous x.value.toInt) :
    judged x w = { w with state := .armed, qualifyCount := 0 } := by
  rw [judged, state]
  exact if_neg (mt (qualifies_iff _ _ _).mp fails)

theorem judged_holdoff (state : w.state = .holdoff) :
    judged x w = { w with holdoffCount := w.holdoffCount - 1 } := by
  rw [judged, state]

theorem judged_rearms (state : w.state = .rearmWait)
    (rearm : MeetsRearm w.definition w.previous x.value.toInt) : judged x w = { w with state := .armed } := by
  rw [judged, state]
  exact if_pos ((rearms_iff _ _ _).mpr rearm)

theorem judged_waits (state : w.state = .rearmWait)
    (rearm : ¬ MeetsRearm w.definition w.previous x.value.toInt) : judged x w = w := by
  rw [judged, state]
  exact if_neg (mt (rearms_iff _ _ _).mp rearm)

end

/-- Settles O30: a judgement by the state, and then by the condition that the state looks at. -/
theorem watchesJudgeTheirSamples : Obligations.WatchesJudgeTheirSamples := by
  rintro x w _ _ _ _ rfl rfl rfl rfl
  refine ⟨judge_passive, fun stream => ⟨fun active => ⟨fun meets more => ?_, fun meets enough => ?_⟩,
    fun armed fails => ?_, fun qualifying fails => ?_, fun holdoff => ?_, fun waits rearm => ?_, fun waits rearm => ?_⟩⟩
  · have armed : w.state ≠ .disarmed := by obtain e | e := active <;> rw [e] <;> nofun
    rw [judge_active armed stream, judged_meets active meets, countQualifying_below more]
  · have armed : w.state ≠ .disarmed := by obtain e | e := active <;> rw [e] <;> nofun
    rw [judge_active armed stream, judged_meets active meets, countQualifying_reached enough]
  · rw [judge_active (by rw [armed]; nofun) stream, judged_armed_fails armed fails]
  · rw [judge_active (by rw [qualifying]; nofun) stream, judged_qualifying_fails qualifying fails]
  · rw [judge_active (by rw [holdoff]; nofun) stream, judged_holdoff holdoff]
  · rw [judge_active (by rw [waits]; nofun) stream, judged_rearms waits rearm]
  · rw [judge_active (by rw [waits]; nofun) stream, judged_waits waits rearm]

/-! ## Firing (R75, R76, R86) -/

/-- The trigger that a firing sends: one when a profile is named (R75, R86). -/
def sentTriggers (profile : Option (Fin 4)) (alarm : Bool) (source : TriggerSource) (time : Time)
    (sample : Option TriggerSample) : List Trigger :=
  match profile with
  | some p => [{ profile := p, source := source, time := time, sample := sample, alarm := alarm, earlierRun := false }]
  | none => []

/-- The alarm request that a firing makes itself: one with profile NONE and the alarm flag on (R76, R86). -/
def sentRequests (profile : Option (Fin 4)) (alarm : Bool) (source : TriggerSource) (time : Time)
    (sample : Option TriggerSample) : List AlarmRequest :=
  if profile = none ∧ alarm = true then
    [{ source := source, time := time, value := sample.map fun x => x.value, record := none }]
  else []

theorem sendFiring_eq (profile : Option (Fin 4)) (alarm : Bool) (source : TriggerSource) (time : Time)
    (sample : Option TriggerSample) (s : State) :
    sendFiring profile alarm source time sample s
      = { s with
          triggers := s.triggers ++ sentTriggers profile alarm source time sample
          alarmRequests := s.alarmRequests ++ sentRequests profile alarm source time sample } := by
  cases profile with
  | some p => simp [sendFiring, sentTriggers, sentRequests]
  | none => cases alarm <;> simp [sendFiring, sentTriggers, sentRequests]

theorem fireWatch_none {w : Fin 8} {s : State} (none : s.watches[w].firing = none) : fireWatch w s = s := by
  rw [fireWatch, none]

theorem fireWatch_due {w : Fin 8} {x : FilteredSample} {s : State} (due : s.watches[w].firing = some x) :
    fireWatch w s = setWatch w (afterFiring s.watches[w])
      (sendFiring s.watches[w].definition.profile s.watches[w].definition.alarm (.watch w) x.time
        (some { stream := x.stream, index := x.index, value := x.value }) s) := by
  rw [fireWatch, due]

theorem afterFiring_eq (w : Watch) :
    afterFiring w = { w with
      qualifyCount := 0
      firing := none
      state := if w.definition.oneShot then .disarmed else if w.definition.holdoff = 0 then .rearmWait else .holdoff
      holdoffCount := if w.definition.oneShot = false ∧ w.definition.holdoff ≠ 0 then w.definition.holdoff
        else w.holdoffCount } := by
  have counts : (if w.definition.oneShot || decide (w.definition.holdoff = 0) then w.holdoffCount
      else w.definition.holdoff)
      = if w.definition.oneShot = false ∧ w.definition.holdoff ≠ 0 then w.definition.holdoff else w.holdoffCount := by
    by_cases kept : w.definition.oneShot = true ∨ w.definition.holdoff = 0
    · rw [if_pos (by simpa using kept), if_neg (by simpa [imp_iff_not_or] using kept)]
    · rw [if_neg (by simpa using kept), if_pos (by simpa using kept)]
  rw [afterFiring, counts]

theorem endHoldoff_due {w : Fin 8} {s : State} (state : s.watches[w].state = .holdoff)
    (count : s.watches[w].holdoffCount = 0) :
    endHoldoff w s = setWatch w { s.watches[w] with state := .rearmWait } s :=
  if_pos (by rw [holdoffEndDue, decide_eq_true state, decide_eq_true count]; rfl)

theorem endHoldoff_stays {w : Fin 8} {s : State}
    (h : s.watches[w].state ≠ .holdoff ∨ s.watches[w].holdoffCount ≠ 0) : endHoldoff w s = s := by
  have early : holdoffEndDue w s = false := by
    obtain state | count := h
    · rw [holdoffEndDue, decide_eq_false state, Bool.false_and]
    · rw [holdoffEndDue, decide_eq_false count, Bool.and_false]
  rw [endHoldoff, early, if_neg Bool.false_ne_true]

/-- Settles O31: each of the two commands by what is due of it. -/
theorem watchesFireAndMoveOn : Obligations.WatchesFireAndMoveOn := by
  intro w s v live settled
  have fires : exec (.watchFire w) s = .next (conclude (fireWatch w v)) := by
    rw [← settled]
    exact congrArg Host.Outcome.next (takeDueStep_live (takeWatchFire w) live)
  have ends : exec (.watchHoldoffEnd w) s = .next (conclude (endHoldoff w v)) := by
    rw [← settled]
    exact congrArg Host.Outcome.next (takeDueStep_live (takeHoldoffEnd w) live)
  rw [fires, ends]
  refine ⟨fun none => by rw [fireWatch_none none], ?_, fun state count => by rw [endHoldoff_due state count]; rfl,
    fun stays => by rw [endHoldoff_stays stays]⟩
  rintro x _ due rfl
  rw [fireWatch_due due, sendFiring_eq, afterFiring_eq]
  rfl

/-! ## The external trigger (R86, R87, R222) -/

theorem exec_trigInEdge {edge : Edge} {s u : State} (finds : Finds s u) :
    exec (.trigInEdge edge) s = .next (conclude (takeTrigIn edge u)) :=
  congrArg Host.Outcome.next (takeEvent_finds (takeTrigIn edge) finds)

/-- The accepted level of TRIG_IN after an edge (R222). -/
def withTrigIn (edge : Edge) (s : State) : State := { s with pins := { s.pins with trigIn := edgeLevel edge } }

theorem takeTrigIn_same {edge : Edge} {s : State} (same : s.pins.trigIn = edgeLevel edge) : takeTrigIn edge s = s :=
  if_pos same

theorem takeTrigIn_ignored {edge : Edge} {s : State} (moves : s.pins.trigIn ≠ edgeLevel edge)
    (ignored : s.external.state ≠ .armed ∨ s.external.definition.edge ≠ edge) :
    takeTrigIn edge s = withTrigIn edge s :=
  (if_neg moves).trans (if_neg (by simpa [imp_iff_not_or] using ignored))

theorem takeTrigIn_fires {edge : Edge} {s : State} (moves : s.pins.trigIn ≠ edgeLevel edge)
    (armed : s.external.state = .armed) (selected : s.external.definition.edge = edge) :
    takeTrigIn edge s = fireExternal (withTrigIn edge s) :=
  (if_neg moves).trans (if_pos (by rw [decide_eq_true armed, decide_eq_true selected]; rfl))

/-- Settles O32: the edge by the level accepted, and by what the external trigger waits for. -/
theorem trigInEdgesFireTheExternalTrigger : Obligations.TrigInEdgesFireTheExternalTrigger := by
  rintro edge s u finds
  rw [exec_trigInEdge finds]
  refine ⟨fun same => by rw [takeTrigIn_same same], ?_⟩
  rintro _ _ rfl moves rfl
  refine ⟨fun ignored => by rw [takeTrigIn_ignored moves ignored]; rfl, fun armed selected => ?_⟩
  rw [takeTrigIn_fires moves armed selected, fireExternal, sendFiring_eq]
  rfl

end Sys2Proof.Machine
end

section
/-! PROOFS. Edits of watches and of the external trigger (R82, R88, R198, R199). -/

namespace Sys2Proof.Machine

/-! ## Definitions read back (R198, R199, R212) -/

theorem optionalProfile_byte (p : Option (Fin 4)) : optionalProfile (optionalProfileByte p) = p := by
  cases p with
  | none => rfl
  | some p =>
    have named : byteOf p.val ≠ 0xFF := by revert p; decide
    rw [optionalProfileByte, optionalProfile, if_neg named, ofNat_byteOf (by decide)]

theorem isOptionalProfile_byte (p : Option (Fin 4)) : isOptionalProfile (optionalProfileByte p) = true := by
  cases p with
  | none => rfl
  | some p => rw [optionalProfileByte, isOptionalProfile, below_byteOf p.isLt (by decide), Bool.true_or]

theorem isConsistent_of {d : WatchDefinition} (outside : d.kind = .outside → d.low.toInt ≤ d.high.toInt)
    (step : d.kind = .step → 0 ≤ d.high.toInt) : isConsistent d = true := by
  unfold isConsistent
  split
  · next kind => exact decide_eq_true (outside kind)
  · next kind => exact decide_eq_true (step kind)
  · rfl
  · rfl

theorem readConfigureWatch_watch {d : WatchDefinition} (w : Fin 8) (hysteresis : d.hysteresis ≤ 32767)
    (low : 1 ≤ d.qualify) (high : d.qualify ≤ 255) (holdoff : d.holdoff ≤ 65535) (consistent : isConsistent d = true) :
    readConfigureWatch (byteOf w.val :: watchBytes d) = .ok (w, d) := by
  have qualified : (byteOf d.qualify).toNat = d.qualify := toNat_byteOf (by omega)
  have margin : valueOf [byteOf d.hysteresis, byteOf (d.hysteresis / 256)] = d.hysteresis :=
    valueOf_lowFirst (by omega)
  have named : below 4 (kindByte d.kind) = true := by cases d.kind <;> rfl
  have coded : readKind (kindByte d.kind) = d.kind := by cases d.kind <;> rfl
  simp only [watchBytes, sampleBytes, lowFirst_two, List.cons_append, List.nil_append, readConfigureWatch, margin,
    valueOf_lowFirst holdoff, qualified, word_lowFirst, isOn_flagByte, coded, optionalProfile_byte]
  rw [ofNat_byteOf (by decide), ofNat_byteOf (by decide), checkFields_ok]
  · exact if_pos consistent
  · simp only [isFlag_flagByte, below_byteOf w.isLt (by decide), below_byteOf d.stream.isLt (by decide), named,
      isOptionalProfile_byte, decide_eq_true hysteresis, decide_eq_true low]
    simp

theorem readConfigureExternal_external {d : ExternalDefinition} (holdoff : d.holdoff ≤ 1000000) :
    readConfigureExternal (externalBytes d) = .ok d := by
  have value : valueOf (lowFirst 4 d.holdoff) = d.holdoff :=
    valueOf_lowFirst_of_lt (Nat.lt_of_le_of_lt holdoff (by decide))
  have named : isFlag (edgeByte d.edge) = true := by cases d.edge <;> rfl
  have coded : (if isOn (edgeByte d.edge) then Edge.falling else .rising) = d.edge := by cases d.edge <;> rfl
  simp only [lowFirst] at value
  simp only [externalBytes, lowFirst, List.cons_append, List.nil_append, readConfigureExternal, value, isOn_flagByte,
    coded, optionalProfile_byte]
  refine checkFields_ok ?_ _
  simp only [isFlag_flagByte, named, isOptionalProfile_byte, decide_eq_true holdoff]
  simp

/-! ## The checks of an edit (R82, R88) -/

theorem usableOrNone_eq_false {p : Fin 4} {s : State} (unusable : ¬ ProfileUsable p s) :
    usableOrNone (some p) s = false := usableProfile_eq_false unusable

/-- An edit is checked, and arms, only while RUNNING and enabled (R82). -/
theorem runs_and_enabled_eq_false {enabled : Bool} {s : State} (passive : s.acquisition ≠ .running ∨ enabled = false) :
    (decide (s.acquisition = .running) && enabled) = false := by
  obtain stopped | disabled := passive
  · rw [decide_eq_false stopped, Bool.false_and]
  · rw [disabled, Bool.and_false]

theorem runs_and_enabled_eq_true {enabled : Bool} {s : State} (running : s.acquisition = .running)
    (on : enabled = true) : (decide (s.acquisition = .running) && enabled) = true := by
  rw [decide_eq_true running, on, Bool.and_self]

section

variable {w : Fin 8} {d : WatchDefinition} {e : ExternalDefinition} {s : State}

theorem checkWatchEdit_passive (passive : s.acquisition ≠ .running ∨ d.enabled = false) :
    checkWatchEdit s (w, d) = .ok (w, d) := by
  rw [checkWatchEdit, runs_and_enabled_eq_false passive, if_neg Bool.false_ne_true]

theorem checkWatchEdit_active (running : s.acquisition = .running) (enabled : d.enabled = true) :
    checkWatchEdit s (w, d) = unlessOk s.streams[d.stream].enabled .notConfigured (byteOf d.stream.val)
      (unlessOk (usableOrNone d.profile s) .notConfigured (profileDetail d.profile) (.ok (w, d))) := by
  rw [checkWatchEdit, runs_and_enabled_eq_true running enabled, if_pos rfl]

theorem checkWatchEdit_sound (running : s.acquisition = .running) (enabled : d.enabled = true) (sound : WatchSound d s) :
    checkWatchEdit s (w, d) = .ok (w, d) := by
  obtain ⟨stream, usable⟩ := sound enabled
  rw [checkWatchEdit_active running enabled, stream, usableOrNone_of usable]
  rfl

theorem checkWatchEdit_stream (running : s.acquisition = .running) (enabled : d.enabled = true)
    (stream : s.streams[d.stream].enabled = false) :
    checkWatchEdit s (w, d) = refuse .notConfigured (byteOf d.stream.val) := by
  rw [checkWatchEdit_active running enabled, stream]
  rfl

theorem checkWatchEdit_profile {p : Fin 4} (running : s.acquisition = .running) (enabled : d.enabled = true)
    (stream : s.streams[d.stream].enabled = true) (profile : d.profile = some p) (unusable : ¬ ProfileUsable p s) :
    checkWatchEdit s (w, d) = refuse .notConfigured (byteOf (0x30 + p.val)) := by
  rw [checkWatchEdit_active running enabled, stream, profile, usableOrNone_eq_false unusable]
  rfl

theorem checkExternalEdit_passive (passive : s.acquisition ≠ .running ∨ e.enabled = false) :
    checkExternalEdit s e = .ok e := by
  rw [checkExternalEdit, runs_and_enabled_eq_false passive, if_neg Bool.false_ne_true]

theorem checkExternalEdit_active (running : s.acquisition = .running) (enabled : e.enabled = true) :
    checkExternalEdit s e
      = unlessOk (usableOrNone e.profile s) .notConfigured (profileDetail e.profile) (.ok e) := by
  rw [checkExternalEdit, runs_and_enabled_eq_true running enabled, if_pos rfl]

theorem checkExternalEdit_sound (running : s.acquisition = .running) (enabled : e.enabled = true)
    (sound : ExternalSound e s) : checkExternalEdit s e = .ok e := by
  rw [checkExternalEdit_active running enabled, usableOrNone_of (sound enabled)]
  rfl

theorem checkExternalEdit_profile {p : Fin 4} (running : s.acquisition = .running) (enabled : e.enabled = true)
    (profile : e.profile = some p) (unusable : ¬ ProfileUsable p s) :
    checkExternalEdit s e = refuse .notConfigured (byteOf (0x30 + p.val)) := by
  rw [checkExternalEdit_active running enabled, profile, usableOrNone_eq_false unusable]
  rfl

end

/-! ## The answers (R82, R88, R198, R199) -/

section

variable {r : Request} {s : State}

/-- An accepted request whose effect raises no notice. -/
theorem answer_quiet {α : Type} {t : State} {verdict : Verdict α} {a : α} {data : List Byte}
    {effect : α → State → State × List Byte} (accepted : verdict = .ok a)
    (changed : effect a (holdNotices s) = (holdNotices t, data)) : answer none r verdict effect s = replied r data t := by
  subst accepted
  exact answerAccepted_quiet r (effect a) s t data changed

/-- An accepted edit replaces the watch whole, and its new state is the reply (R82, R198). -/
theorem runConfigureWatch_accepted {w : Fin 8} {d : WatchDefinition} {state : WatchState}
    (accepted : (readConfigureWatch r.payload).bind (checkWatchEdit s) = .ok (w, d))
    (edited : editedState d.enabled s = state) :
    runConfigureWatch none r s
      = replied r [watchStateByte state] { s with watches := put s.watches w (freshWatch d state) } := by
  rw [← edited]
  exact answer_quiet accepted rfl

theorem runConfigureWatch_refused {status : Status} {detail : Byte}
    (refused : (readConfigureWatch r.payload).bind (checkWatchEdit s) = refuse status detail) :
    runConfigureWatch none r s = refusedWith r status detail s := answer_refuse refused

theorem runConfigureExternal_accepted {d : ExternalDefinition} {state : ExternalState}
    (accepted : (readConfigureExternal r.payload).bind (checkExternalEdit s) = .ok d)
    (edited : editedExternal d s = { definition := d, state := state }) :
    runConfigureExternal none r s
      = replied r [externalStateByte state] { s with external := { definition := d, state := state } } := by
  have answered : runConfigureExternal none r s
      = replied r [externalStateByte (editedExternal d s).state] { s with external := editedExternal d s } :=
    answer_quiet accepted rfl
  rw [answered, edited]

theorem runConfigureExternal_refused {status : Status} {detail : Byte}
    (refused : (readConfigureExternal r.payload).bind (checkExternalEdit s) = refuse status detail) :
    runConfigureExternal none r s = refusedWith r status detail s := answer_refuse refused

end

/-- Settles O44: each definition is read back as it was coded, checked, and then replaced or refused. -/
theorem watchAndExternalEdits : Obligations.WatchAndExternalEdits := by
  refine ⟨?watch, ?external⟩
  case watch =>
    intro r s u w d finds type hysteresis low high holdoff outside step payload
    have run : exec .configureWatch s = .next (conclude (runConfigureWatch none r u)) := carriedOut finds type
    have checked : (readConfigureWatch r.payload).bind (checkWatchEdit u) = checkWatchEdit u (w, d) := by
      rw [payload, readConfigureWatch_watch w hysteresis low high holdoff (isConsistent_of outside step)]
      rfl
    rw [run]
    refine ⟨fun passive => ?_, fun running enabled sound => ?_, fun running enabled stream => ?_,
      fun p running enabled stream profile unusable => ?_⟩
    · rw [runConfigureWatch_accepted (state := .disarmed) (checked.trans (checkWatchEdit_passive passive))
        (if_neg (by rw [runs_and_enabled_eq_false passive]; nofun))]
      rfl
    · rw [runConfigureWatch_accepted (state := .armed) (checked.trans (checkWatchEdit_sound running enabled sound))
        (if_pos (runs_and_enabled_eq_true running enabled))]
      rfl
    · rw [runConfigureWatch_refused (checked.trans (checkWatchEdit_stream running enabled stream))]
    · rw [runConfigureWatch_refused (checked.trans (checkWatchEdit_profile running enabled stream profile unusable))]
  case external =>
    intro r s u d finds type holdoff payload
    have run : exec .configureExternalTrigger s = .next (conclude (runConfigureExternal none r u)) :=
      carriedOut finds type
    have checked : (readConfigureExternal r.payload).bind (checkExternalEdit u) = checkExternalEdit u d := by
      rw [payload, readConfigureExternal_external holdoff]
      rfl
    rw [run]
    refine ⟨fun passive => ?_, fun running enabled sound => ?_, fun p running enabled profile unusable => ?_⟩
    · rw [runConfigureExternal_accepted (state := .disarmed) (checked.trans (checkExternalEdit_passive passive))
        (by rw [editedExternal, runs_and_enabled_eq_false passive]; rfl)]
      rfl
    · rw [runConfigureExternal_accepted (state := .armed) (checked.trans (checkExternalEdit_sound running enabled sound))
        (by rw [editedExternal, runs_and_enabled_eq_true running enabled]; rfl)]
      rfl
    · rw [runConfigureExternal_refused (checked.trans (checkExternalEdit_profile running enabled profile unusable))]

end Sys2Proof.Machine
end

section
/-! PROOFS. The Stop that drains, reaches IDLE or changes nothing (R81, R119, R126 to R130, R203). -/

namespace Sys2Proof.Machine

/-! ## The outputs delivered ahead of a Stop (R119; log 14) -/

theorem acquisition_foldl {α : Type} {a : AcquisitionState} (f : State → α → State)
    (h : ∀ x s, s.acquisition = a → (f s x).acquisition = a) (l : List α) {s : State} (hs : s.acquisition = a) :
    (l.foldl f s).acquisition = a := by
  induction l generalizing s with
  | nil => exact hs
  | cons x rest ih => exact ih (h x s hs)

section

variable {s : State} (steady : s.acquisition ≠ .draining)

include steady

/-- A part that is not DRAINING has no drain to end (R43, R128). -/
theorem reachPostCount_acquisition (k : Fin 16) : (reachPostCount k s).acquisition = s.acquisition := by
  unfold reachPostCount
  split
  · next n _ =>
    have closed : (closeIfDone n (stopCollecting n k s)).acquisition = s.acquisition :=
      (storeKept_trans (stopCollecting_storeKept n k s) (closeIfDone_storeKept n _)).acquisition
    rw [endDrain_continues fun drains => absurd (closed.symm.trans drains) steady, closed]
  · rfl

theorem takeOutput_acquisition (k : Fin 16) : (takeOutput k s).acquisition = s.acquisition := by
  cases due : s.filters[k].due with
  | none => rw [takeOutput_none k s due]
  | some raw =>
    have stored := storeOutput_acquisition k raw s
    rw [takeOutput_due due, evaluate_acquisition,
      endDrain_continues fun drains => absurd (stored.symm.trans drains) steady, stored]

theorem settle_acquisition : (settle s).acquisition = s.acquisition := by
  refine (acquisition_of_view (settleWatches_view _)).trans (acquisition_foldl _ (fun k t kept => ?_) allStreams rfl)
  unfold settlePostCount
  split
  · rw [acquisition_of_view (conclude_view _), reachPostCount_acquisition (by rwa [kept]), kept]
  · exact kept

theorem outputsTaken_acquisition : (outputsTaken s).acquisition = s.acquisition := by
  rw [← deliverAll_eq]
  refine acquisition_foldl _ (fun k t kept => ?_) allStreams rfl
  unfold takeDueOutput
  split
  · have taken : (conclude (takeOutput k t)).acquisition = s.acquisition := by
      rw [acquisition_of_view (conclude_view _), takeOutput_acquisition (by rwa [kept]), kept]
    rw [settle_acquisition (by rwa [taken]), taken]
  · exact kept

end

theorem outputsTaken_none {s : State} (h : ∀ k : Fin 16, s.filters[k].due = none) : outputsTaken s = s := by
  rw [← deliverAll_eq, deliverAll_none s h]

/-! ## What a Stop does (R126, R127, R129, R130) -/

theorem stopEffect_idle {mode : Byte} {s : State} (idle : s.acquisition = .idle) : stopEffect mode s = s := by
  rw [stopEffect, idle]

theorem stopEffect_graceful_draining {s : State} (draining : s.acquisition = .draining) : stopEffect 0 s = s := by
  rw [stopEffect, draining]
  rfl

theorem stopEffect_graceful_running {s : State} (running : s.acquisition = .running) :
    stopEffect 0 s = stopGently s := by
  rw [stopEffect, running]
  rfl

theorem stopGently_open {s : State} (opened : anyOpen s = true) :
    stopGently s = { disarmed s with acquisition := .draining } := if_pos opened

theorem stopGently_closed {s : State} (closed : anyOpen s = false) :
    stopGently s = reachIdle .drained (disarmAll s) := if_neg (by rw [closed]; nofun)

/-- With no record OPEN an immediate Stop has none to end (R44). -/
theorem stopNow_closed {s : State} (closed : anyOpen s = false) : stopNow s = reachIdle .stopped (disarmAll s) := by
  have none : openNumbers (disarmAll s) = [] := by
    rw [openNumbers, List.map_eq_nil_iff, List.filter_eq_nil_iff]
    exact fun r member => by simpa [isOpen] using anyOpen_eq_false.mp closed r member
  rw [stopNow, stopAllRecords, none]
  rfl

/-- The steps of R130 while notices are held (R188). -/
theorem reachIdle_disarmAll_held (reason : IdleReason) (s : State) :
    reachIdle reason (disarmAll (holdNotices s))
      = { quieted s with dispatcher :=
            { s.dispatcher with held := some [.acquisitionIdle reason s.clock.timebase s.records.length] } } := by
  rw [reachIdle_eq, raiseNotice_held _ _ [] rfl]
  simp only [quieted, disarmed, disarmAll, Vector.map_map]
  rfl

/-! ## The answer to a Stop (R203) -/

section

variable {r : Request} {s t : State} {mode : Byte}

/-- The effect and the reply data of a Stop. -/
def stopAnswer (mode : Byte) (s : State) : State × List Byte :=
  (stopEffect mode s, [acquisitionByte (stopEffect mode s).acquisition])

theorem runStop_direct (read : readStop r.payload = .ok mode) (stays : stopReachesIdle mode s = false) :
    runStop none r s = answerAccepted none r (stopAnswer mode) s := by
  rw [runStop, read, beforeStop, stays]
  rfl

theorem runStop_delivers (read : readStop r.payload = .ok mode) (reaches : stopReachesIdle mode s = true) :
    runStop none r s = answerAccepted none r (stopAnswer mode) (outputsTaken s) := by
  rw [runStop, read, beforeStop, if_pos reaches, deliverAll_eq]
  rfl

theorem answerAccepted_stop_quiet (stopped : stopEffect mode (holdNotices s) = holdNotices t) :
    answerAccepted none r (stopAnswer mode) s = replied r [acquisitionByte t.acquisition] t :=
  answerAccepted_quiet r (stopAnswer mode) s t _ (by rw [stopAnswer, stopped]; rfl)

theorem answerAccepted_stop_idle {reason : IdleReason}
    (stopped : stopEffect mode (holdNotices s) = reachIdle reason (disarmAll (holdNotices s))) :
    answerAccepted none r (stopAnswer mode) s
      = offered [.acquisitionIdle reason s.clock.timebase s.records.length] (replied r [0x00] (quieted s)) :=
  answerAccepted_eq r (stopAnswer mode) s (quieted s) _ _
    (by rw [stopAnswer, stopped, reachIdle_disarmAll_held]; rfl)

theorem stopReachesIdle_idle (idle : s.acquisition = .idle) : stopReachesIdle mode s = false := by
  rw [stopReachesIdle, acquiring, idle]
  rfl

theorem answerAccepted_stop_unmoved (idle : s.acquisition = .idle) :
    answerAccepted none r (stopAnswer mode) s = replied r [0x00] s := by
  rw [answerAccepted_stop_quiet (t := s) (stopEffect_idle (s := holdNotices s) idle), idle]
  rfl

theorem answerAccepted_stop_drains (running : s.acquisition = .running) (opened : anyOpen s = true) :
    answerAccepted none r (stopAnswer 0) s = replied r [0x02] { disarmed s with acquisition := .draining } :=
  answerAccepted_stop_quiet (t := { disarmed s with acquisition := .draining })
    ((stopEffect_graceful_running (s := holdNotices s) running).trans (stopGently_open (s := holdNotices s) opened))

theorem answerAccepted_stop_drained (running : s.acquisition = .running) (closed : anyOpen s = false) :
    answerAccepted none r (stopAnswer 0) s
      = offered [.acquisitionIdle .drained s.clock.timebase s.records.length] (replied r [0x00] (quieted s)) :=
  answerAccepted_stop_idle
    ((stopEffect_graceful_running (s := holdNotices s) running).trans (stopGently_closed (s := holdNotices s) closed))

theorem answerAccepted_stop_stopped (acquires : s.acquisition ≠ .idle) (closed : anyOpen s = false) :
    answerAccepted none r (stopAnswer 1) s
      = offered [.acquisitionIdle .stopped s.clock.timebase s.records.length] (replied r [0x00] (quieted s)) :=
  answerAccepted_stop_idle
    ((stopEffect_immediate (s := holdNotices s) acquires).trans (stopNow_closed (s := holdNotices s) closed))

/-- STOP_GRACEFUL (R126, R127). -/
theorem runStop_graceful (payload : r.payload = [0]) :
    (s.acquisition = .idle → runStop none r s = replied r [0x00] s)
    ∧ (s.acquisition = .draining → runStop none r s = replied r [0x02] s)
    ∧ (s.acquisition = .running → anyOpen s = true →
      runStop none r s = replied r [0x02] { disarmed s with acquisition := .draining })
    ∧ (s.acquisition = .running → anyOpen s = false → t = outputsTaken s →
      (anyOpen t = true → runStop none r s = replied r [0x02] { disarmed t with acquisition := .draining })
      ∧ (anyOpen t = false → runStop none r s
          = offered [.acquisitionIdle .drained t.clock.timebase t.records.length] (replied r [0x00] (quieted t)))) := by
  have read : readStop r.payload = .ok 0 := by rw [payload]; rfl
  refine ⟨fun idle => ?_, fun draining => ?_, fun running opened => ?_, fun running closed delivered => ?_⟩
  · rw [runStop_direct read (stopReachesIdle_idle idle), answerAccepted_stop_unmoved idle]
  · rw [runStop_direct read (by simp [stopReachesIdle, draining]),
      answerAccepted_stop_quiet (t := s) (stopEffect_graceful_draining (s := holdNotices s) draining), draining]
    rfl
  · rw [runStop_direct read (by simp [stopReachesIdle, opened]), answerAccepted_stop_drains running opened]
  · have kept : t.acquisition = .running := by
      rw [delivered, outputsTaken_acquisition (by rw [running]; nofun), running]
    rw [runStop_delivers read (by rw [stopReachesIdle, acquiring, running, closed]; rfl), ← delivered]
    exact ⟨answerAccepted_stop_drains kept, answerAccepted_stop_drained kept⟩

/-- STOP_IMMEDIATE with no record OPEN (R126, R129). -/
theorem runStop_immediate_closed (payload : r.payload = [1]) :
    (s.acquisition = .idle → runStop none r s = replied r [0x00] s)
    ∧ (s.acquisition ≠ .idle → t = outputsTaken s →
      (t.acquisition = .idle → runStop none r s = replied r [0x00] t)
      ∧ (t.acquisition ≠ .idle → anyOpen t = false → runStop none r s
          = offered [.acquisitionIdle .stopped t.clock.timebase t.records.length] (replied r [0x00] (quieted t)))) := by
  refine ⟨fun idle => ?_, fun acquires delivered => ?_⟩
  · rw [runStop_direct (mode := 1) (by rw [payload]; rfl) (stopReachesIdle_idle idle), answerAccepted_stop_unmoved idle]
  · have run : runStop none r s = answerAccepted none r (stopAnswer 1) t := by
      rw [delivered]
      exact runStop_immediate payload acquires
    rw [run]
    exact ⟨answerAccepted_stop_unmoved, answerAccepted_stop_stopped⟩

end

/-- Settles O48: the effect by the mode and the state of acquisition, on what the outputs that were due have left. -/
theorem stopsDrainOrReachIdle : Obligations.StopsDrainOrReachIdle := by
  intro r s u z finds type delivered
  refine ⟨fun payload => ?graceful, fun payload => ?immediate, fun none => delivered.trans (outputsTaken_none none)⟩
  case graceful =>
    have run : exec .stopGraceful s = .next (conclude (runStop none r u)) :=
      congrArg Host.Outcome.next (carryOut_finds r _ _ finds (by rw [isStopGraceful, ofType, type, payload]; rfl))
    obtain ⟨unmoved, draining, drains, reaches⟩ := runStop_graceful (s := u) (t := z) payload
    rw [run]
    exact ⟨fun idle => by rw [unmoved idle], fun is_draining => by rw [draining is_draining],
      fun running opened => by rw [drains running opened],
      fun running closed opened => by rw [(reaches running closed delivered).1 opened],
      fun running closed still => by rw [(reaches running closed delivered).2 still]⟩
  case immediate =>
    have run : exec .stopImmediate s = .next (conclude (runStop none r u)) :=
      congrArg Host.Outcome.next (carryOut_finds r _ _ finds (by rw [isStopImmediate, ofType, type, payload]; rfl))
    obtain ⟨unmoved, reaches⟩ := runStop_immediate_closed (s := u) (t := z) payload
    rw [run]
    exact ⟨fun idle => by rw [unmoved idle], fun acquires idle => by rw [(reaches acquires delivered).1 idle],
      fun acquires still closed => by rw [(reaches acquires delivered).2 still closed]⟩

end Sys2Proof.Machine
end

section
/-! PROOFS. What a delivery and the steps after it keep: the clock, and every stream with no output due. -/

namespace Sys2Proof.Machine

/-! ## What a delivery keeps (R103, R113) -/

/-- The Timebase stands, and a stream with no output due has none afterwards: only a conversion makes an output due
(R113). -/
structure DeliveryKeeps (s t : State) : Prop where
  clock : t.clock = s.clock
  notDue : ∀ k : Fin 16, s.filters[k].due = none → t.filters[k].due = none

theorem deliveryKeeps_of_eq {s t : State} (clock : t.clock = s.clock) (filters : t.filters = s.filters) :
    DeliveryKeeps s t := ⟨clock, fun k none => by rw [filters, none]⟩

theorem deliveryKeeps_refl (s : State) : DeliveryKeeps s s := deliveryKeeps_of_eq rfl rfl

theorem deliveryKeeps_trans {s t u : State} (first : DeliveryKeeps s t) (second : DeliveryKeeps t u) : DeliveryKeeps s u :=
  ⟨second.clock.trans first.clock, fun k none => second.notDue k (first.notDue k none)⟩

theorem deliveryKeeps_foldl {α : Type} (f : State → α → State) (h : ∀ a s, DeliveryKeeps s (f s a)) (l : List α)
    (s : State) : DeliveryKeeps s (l.foldl f s) := by
  induction l generalizing s with
  | nil => exact deliveryKeeps_refl s
  | cons a rest ih => exact deliveryKeeps_trans (h a s) (ih (f s a))

theorem deliveryKeeps_of_settings {s t : State} (h : KeepsSettings s t) : DeliveryKeeps s t := by
  obtain ⟨filters, -, -, -, clock, -, -⟩ := h
  exact deliveryKeeps_of_eq clock filters

theorem conclude_deliveryKeeps (s : State) : DeliveryKeeps s (conclude s) :=
  deliveryKeeps_of_settings (conclude_keepsSettings s)

theorem settleWatches_deliveryKeeps (s : State) : DeliveryKeeps s (settleWatches s) := by
  obtain ⟨_, _, _, h⟩ := settleWatches_shape s
  rw [h]
  exact deliveryKeeps_of_eq rfl rfl

theorem closeIfDone_deliveryKeeps (n : Nat) (s : State) : DeliveryKeeps s (closeIfDone n s) := by
  obtain ⟨_, _, _, _, _, h⟩ := closeIfDone_shape n s
  rw [h]
  exact deliveryKeeps_of_eq rfl rfl

theorem stopCollecting_deliveryKeeps (n : Nat) (k : Fin 16) (s : State) : DeliveryKeeps s (stopCollecting n k s) :=
  deliveryKeeps_of_eq rfl rfl

theorem cutWindow_deliveryKeeps (n : Nat) (k : Fin 16) (s : State) : DeliveryKeeps s (cutWindow n k s) := by
  have flagged : DeliveryKeeps s (changeFlags n (fun f => { f with truncated := true }) (stopCollecting n k s)) :=
    deliveryKeeps_of_eq rfl rfl
  exact deliveryKeeps_trans flagged (deliveryKeeps_trans
    (deliveryKeeps_of_settings (countUp_keepsSettings .streamTruncated _)) (closeIfDone_deliveryKeeps n _))

/-! ## Storing and making an output (R8, R113) -/

theorem storeStage_deliveryKeeps (x : FilteredSample) (s : State) : DeliveryKeeps s (storeStage x s) := by
  unfold storeStage
  split
  · obtain ⟨_, _, h⟩ | h := ringStore_shape x.stream x.value s <;> rw [h]
    · exact deliveryKeeps_of_eq rfl rfl
    · exact deliveryKeeps_of_settings (countUp_keepsSettings _ s)
  · next n _ =>
    obtain h | ⟨_, h⟩ | ⟨_, _, _, -, h⟩ | ⟨-, h⟩ := captureStore_cases n x.stream x.value s <;> rw [h]
    · exact deliveryKeeps_refl s
    · exact deliveryKeeps_of_eq rfl rfl
    · exact deliveryKeeps_of_eq rfl rfl
    · exact cutWindow_deliveryKeeps n x.stream s
  · exact deliveryKeeps_refl s

/-- A made output changes its filter; the rise of FILTER_SATURATION leaves the settings alone (R113, R115). -/
theorem makeOutput_keepsSettings (k : Fin 16) (raw : RawSample) (s : State) :
    KeepsSettings (setFilter k { s.filters[k] with count := 0, index := s.filters[k].index + 1, due := none } s)
      (makeOutput k raw s) := by
  obtain h | h := makeOutput_cases k raw s <;> rw [h]
  · exact ⟨rfl, rfl, rfl, rfl, rfl, rfl, rfl⟩
  · exact countUp_keepsSettings .filterSaturation _

theorem makeOutput_due (k : Fin 16) (raw : RawSample) (s : State) : (makeOutput k raw s).filters[k].due = none := by
  obtain ⟨filters, -⟩ := makeOutput_keepsSettings k raw s
  rw [filters, setFilter_filters, put_self]

theorem makeOutput_deliveryKeeps (k : Fin 16) (raw : RawSample) (s : State) : DeliveryKeeps s (makeOutput k raw s) := by
  obtain ⟨filters, -, -, -, clock, -⟩ := makeOutput_keepsSettings k raw s
  refine ⟨clock, fun j none => ?_⟩
  rw [filters, setFilter_filters, put_get]
  split
  · rfl
  · exact none

theorem storeOutput_deliveryKeeps (k : Fin 16) (raw : RawSample) (s : State) : DeliveryKeeps s (storeOutput k raw s) :=
  deliveryKeeps_trans (deliveryKeeps_of_settings (takeStreamTriggers_keepsSettings k s))
    (deliveryKeeps_trans (makeOutput_deliveryKeeps k raw _) (storeStage_deliveryKeeps _ _))

/-- The output that is stored is no longer due (R113). -/
theorem storeOutput_due (k : Fin 16) (raw : RawSample) (s : State) : (storeOutput k raw s).filters[k].due = none :=
  (storeStage_deliveryKeeps _ _).notDue k (makeOutput_due k raw _)

theorem deliver_deliveryKeeps (k : Fin 16) (s : State) : DeliveryKeeps s (deliver k s) := by
  unfold deliver
  split
  · exact deliveryKeeps_refl s
  · next raw _ => exact deliveryKeeps_trans (storeOutput_deliveryKeeps k raw s) (deliveryKeeps_of_eq rfl rfl)

/-! ## The arrival at IDLE and the steps that follow at once (R39, R119, R130) -/

theorem deliverDue_deliveryKeeps (k : Fin 16) (s : State) : DeliveryKeeps s (deliverDue k s) := by
  unfold deliverDue
  split
  · exact deliveryKeeps_trans (conclude_deliveryKeeps s) (deliveryKeeps_trans (deliver_deliveryKeeps k _)
      (deliveryKeeps_trans (conclude_deliveryKeeps _) (settleWatches_deliveryKeeps _)))
  · exact deliveryKeeps_refl s

theorem reachIdle_deliveryKeeps (reason : IdleReason) (s : State) : DeliveryKeeps s (reachIdle reason s) := by
  rw [reachIdle_eq]
  obtain ⟨_, _, _, h, -⟩ := raiseNotice_shape (.acquisitionIdle reason s.clock.timebase s.records.length) (quieted s)
  rw [h]
  exact deliveryKeeps_of_eq rfl rfl

theorem endDrain_deliveryKeeps (s : State) : DeliveryKeeps s (endDrain s) := by
  unfold endDrain
  split
  · exact deliveryKeeps_trans (deliveryKeeps_foldl _ (fun k t => deliverDue_deliveryKeeps k t) allStreams s)
      (reachIdle_deliveryKeeps .drained _)
  · exact deliveryKeeps_refl s

theorem reachPostCount_deliveryKeeps (k : Fin 16) (s : State) : DeliveryKeeps s (reachPostCount k s) := by
  unfold reachPostCount
  split
  · next n _ =>
    exact deliveryKeeps_trans (stopCollecting_deliveryKeeps n k s)
      (deliveryKeeps_trans (closeIfDone_deliveryKeeps n _) (endDrain_deliveryKeeps _))
  · exact deliveryKeeps_refl s

theorem settlePostCount_deliveryKeeps (k : Fin 16) (s : State) : DeliveryKeeps s (settlePostCount k s) := by
  unfold settlePostCount
  split
  · exact deliveryKeeps_trans (reachPostCount_deliveryKeeps k s) (conclude_deliveryKeeps _)
  · exact deliveryKeeps_refl s

theorem settle_deliveryKeeps (s : State) : DeliveryKeeps s (settle s) :=
  deliveryKeeps_trans (deliveryKeeps_foldl _ (fun k t => settlePostCount_deliveryKeeps k t) allStreams s)
    (settleWatches_deliveryKeeps _)

/-! ## An output that is taken (R113, R117) -/

/-- An output that has been taken is no longer due: neither the end of a drain nor the watches make it due again. -/
theorem takeOutput_notDue (k : Fin 16) (s : State) : (takeOutput k s).filters[k].due = none := by
  cases due : s.filters[k].due with
  | none => rw [takeOutput_none k s due, due]
  | some raw =>
    rw [takeOutput_due due, evaluate_filters]
    exact (endDrain_deliveryKeeps _).notDue k (storeOutput_due k raw s)

theorem takeDueOutput_notDue (k : Fin 16) (s : State) : (takeDueOutput k s).filters[k].due = none := by
  cases due : s.filters[k].due with
  | none => rw [takeDueOutput_none k s due, due]
  | some raw =>
    rw [takeDueOutput, outputDue, due]
    exact (deliveryKeeps_trans (conclude_deliveryKeeps _) (settle_deliveryKeeps _)).notDue k (takeOutput_notDue k s)

end Sys2Proof.Machine
end

section
/-! PROOFS. The passing of a microsecond, and the requests for the time, the counters and a restart (R103 to R105, R151,
R191 to R193). -/

namespace Sys2Proof.Machine

/-! ## One microsecond (R103, R104; logs 2, 3) -/

/-- A microsecond raises the Timebase by 1, and the part of a microsecond that has passed stays (R103). -/
theorem advanceClock_microsecond {c : Clock} (inside : c.phase < unitsPerMicrosecond) :
    advanceClock (microseconds 1) c = { timebase := c.timebase + 1, phase := c.phase } := by
  simp only [unitsPerMicrosecond] at inside
  have one : (c.phase + 288) / 288 = 1 := by omega
  have rest : (c.phase + 288) % 288 = c.phase := by omega
  simp only [advanceClock, microseconds, unitsPerMicrosecond, Nat.one_mul, one, rest]
  rfl

theorem ageExternal_steady {units : Nat} {x : ExternalState} (steady : ∀ left, x ≠ .holdoff left) :
    ageExternal units x = x := by
  cases x with
  | holdoff left => exact absurd rfl (steady left)
  | armed => rfl
  | disarmed => rfl

/-- On an empty queue the event that is taken is the passing of a microsecond (log 2). -/
theorem step_empty {s u : State} (finds : Finds s u) (empty : s.pending = []) :
    step s = .next (conclude (elapse (microseconds 1) u)) := by
  have passes : step s = .next (takeEvent (elapse (microseconds 1)) s) := by
    simp only [step, empty]
    rfl
  rw [passes, takeEvent_finds _ finds]

/-- Settles O2: the steps that were due leave the clock alone, and each timer ages by 288 units. -/
theorem emptyQueueLetsAMicrosecondPass : Obligations.EmptyQueueLetsAMicrosecondPass := by
  rintro s u _ finds empty inside rfl
  have clock : u.clock = s.clock := finds.2 ▸ (settle_deliveryKeeps s).clock
  have timebase : (elapse (microseconds 1) u).clock = { timebase := s.clock.timebase + 1, phase := s.clock.phase } := by
    rw [elapse_clock, clock, advanceClock_microsecond inside]
  refine ⟨step_empty finds empty, congrArg (fun c => { elapse (microseconds 1) u with clock := c }) timebase,
    fun start k left round => ?_, fun round => ?_, fun period left pacer => ?_, fun pacer => ?_, rfl, rfl,
    fun left holdoff => ?_, fun steady => ?_, List.map_congr_left fun e _ => ?_, rfl, rfl⟩
  · rw [elapse_round, round]; rfl
  · rw [elapse_round, round]; rfl
  · rw [elapse_pacer, pacer]; rfl
  · rw [elapse_pacer, pacer]; rfl
  · rw [elapse_external, holdoff]; rfl
  · exact ageExternal_steady steady
  · obtain ⟨_, _, _, _, _, _, state⟩ := e
    cases state <;> rfl

/-! ## Set Time (R105, R192) -/

theorem readSetTime_timeBytes (t : Time) : readSetTime (timeBytes t) = .ok t := by
  have value : valueOf (lowFirst 6 t.toNat) = t.toNat := valueOf_lowFirst_of_lt t.isLt
  have read : readSetTime (timeBytes t) = .ok (BitVec.ofNat 48 (valueOf (lowFirst 6 t.toNat))) := rfl
  rw [read, value, BitVec.ofNat_toNat, BitVec.setWidth_eq]

theorem runSetTime_eq {r : Request} {t : Time} (payload : r.payload = timeBytes t) (s : State) :
    runSetTime none r s = replied r [] (setTimebase t s) := by
  rw [runSetTime, payload, readSetTime_timeBytes]
  exact answerAccepted_quiet r (fun v => (setTimebase t v, [])) s (setTimebase t s) [] rfl

/-! ## Read Counters with the clear (R151, R193) -/

theorem allCounters_index : allCounters.map counterIndex = List.finRange 16 := by decide

/-- The data of Read Counters, counter by counter in the order of their numbers (R148, R193). -/
theorem countersData_eq (s : State) :
    countersData s = (List.finRange 16).flatMap (fun i => lowFirst 2 s.counters[i].value)
      ++ lowFirst 2 ((List.finRange 16).map fun i => if s.counters[i].mark = .unreported then 2 ^ i.val else 0).sum := by
  rw [← allCounters_index, List.flatMap_map, List.map_map]
  rfl

theorem runReadCounters_clear {r : Request} (payload : r.payload = [1]) (s : State) :
    runReadCounters none r s = replied r (countersData s) (clearCounters s) := by
  rw [runReadCounters, payload]
  exact answerAccepted_quiet r (fun v => (clearCounters v, countersData v)) s (clearCounters s) (countersData s) rfl

/-! ## Restart (R173, R191) -/

theorem decideIdle_dispatcher_stays (s : State) : (decideIdle s).dispatcher = s.dispatcher := by
  have written : decideIdle s = { decideIdle s with dispatcher := s.dispatcher } := decideIdle_dispatcher s s.dispatcher
  rw [written]

/-- The Restart reply is queued as any reply is, and the Dispatcher is RESTARTING. -/
theorem runRestart_eq {r : Request} (type : r.type = 0x05) (payload : r.payload = []) (s : State) :
    runRestart none r s = withReply { kind := .restartReply, type := 0x85, tag := r.tag, payload := [0x00] }
      { s.dispatcher with state := .restarting } s := by
  have frame : { replyFrame r .ok [] with kind := .restartReply }
      = ({ kind := .restartReply, type := 0x85, tag := r.tag, payload := [0x00] } : Frame) := by
    rw [replyFrame, type]
    rfl
  rw [runRestart, payload]
  simp only [readNothing, frame, afterReply, queueReplyFrame, decideIdle_dispatcher_stays]
  rfl

/-- Settles O42: each of the three requests is read, and its effect joins its reply. -/
theorem timeCountersAndRestart : Obligations.TimeCountersAndRestart := by
  refine ⟨fun r s u t finds type payload => ?time, fun r s u finds type payload => ?counters,
    fun r s u finds type payload => ?restart⟩
  case time =>
    have run : exec .setTime s = .next (conclude (runSetTime none r u)) := carriedOut finds type
    rw [run, runSetTime_eq payload]
    rfl
  case counters =>
    have run : exec .readCountersClear s = .next (conclude (runReadCounters none r u)) :=
      congrArg Host.Outcome.next (carryOut_finds r _ _ finds (by rw [isReadCountersClear, ofType, type, payload]; rfl))
    rw [run, runReadCounters_clear payload, countersData_eq]
    rfl
  case restart =>
    have run : exec .restart s = .next (conclude (runRestart none r u)) := carriedOut finds type
    rw [run, runRestart_eq type payload]

end Sys2Proof.Machine
end

section
/-! PROOFS. Rounds: start events, the slots a round converts, and the conversions that hand over their samples (chapter 5,
R113, R224). -/

namespace Sys2Proof.Machine

/-! ## Start events (R94, R95, R97 to R99, R222) -/

theorem ageRound_noRound (units : Nat) (r : RoundState) : ageRound units r = .noRound ↔ r = .noRound := by
  cases r <;> simp [ageRound]

section

variable {s : State}

/-- With no round in progress a start event begins one at its first slot (R95). -/
theorem startEvent_begins {k : Fin 16} (quiet : s.round = .noRound) (first : (convertedStreams s).head? = some k) :
    startEvent s = { s with round := .inRound s.clock.timebase k (conversionTime k s) } := by
  simp only [startEvent, quiet, beginRound, first]

/-- During a round a start event is an overrun (R97). -/
theorem startEvent_overruns (busy : s.round ≠ .noRound) : startEvent s = countUp .roundOverrun s := by
  cases round : s.round with
  | noRound => exact absurd round busy
  | inRound start k left => simp only [startEvent, round]

/-- The pacer's expiry is a start event once the time left to it has passed; the next one follows a period later (R98;
log 3). -/
theorem expirePacer_running {period : Nat} {left : Int} (pacer : s.pacer = .running period left) :
    expirePacer s = startEvent { elapse left.toNat s with pacer := .running period (left - left.toNat + period) } := by
  simp only [expirePacer, pacer, elapse_pacer, agePacer, rearmPacer]

theorem expirePacer_begins {period : Nat} {left : Int} {k : Fin 16} (pacer : s.pacer = .running period left)
    (quiet : s.round = .noRound) (first : (convertedStreams s).head? = some k) :
    expirePacer s = { elapse left.toNat s with
      pacer := .running period (left - left.toNat + period)
      round := .inRound (elapse left.toNat s).clock.timebase k (conversionTime k s) } := by
  rw [expirePacer_running pacer]
  exact startEvent_begins ((ageRound_noRound _ _).mpr quiet) first

theorem expirePacer_overruns {period : Nat} {left : Int} (pacer : s.pacer = .running period left)
    (busy : s.round ≠ .noRound) :
    expirePacer s = countUp .roundOverrun
      { elapse left.toNat s with pacer := .running period (left - left.toNat + period) } := by
  rw [expirePacer_running pacer]
  exact startEvent_overruns (mt (ageRound_noRound _ _).mp busy)

theorem expirePacer_stopped (pacer : s.pacer = .stopped) : expirePacer s = s := by
  simp only [expirePacer, pacer]

/-- A level that is already accepted makes no edge (log 23). -/
theorem takeConvIn_accepted {edge : Edge} (accepted : s.pins.convIn = edgeLevel edge) : takeConvIn edge s = s :=
  if_pos accepted

/-- An edge that starts no round moves the accepted level, and nothing else (R222). -/
theorem takeConvIn_moves {edge : Edge} (moved : s.pins.convIn ≠ edgeLevel edge)
    (quiet : edge = .falling ∨ s.settings.source ≠ .external ∨ s.acquisition = .idle) :
    takeConvIn edge s = { s with pins := { s.pins with convIn := edgeLevel edge } } := by
  rw [takeConvIn, if_neg moved]
  refine if_neg ?_
  rcases quiet with rfl | source | idle
  · simp
  · simp [source]
  · simp [acquiring, idle]

/-- A rising edge under EXTERNAL while RUNNING or DRAINING is a start event (R99). -/
theorem takeConvIn_starts {edge : Edge} (moved : s.pins.convIn ≠ edgeLevel edge) (rising : edge = .rising)
    (source : s.settings.source = .external) (acquires : s.acquisition ≠ .idle) :
    takeConvIn edge s = startEvent { s with pins := { s.pins with convIn := edgeLevel edge } } := by
  rw [takeConvIn, if_neg moved]
  exact if_pos (by simp [rising, source, acquiring, acquires])

end

/-- Settles O23: each of the two commands by its cases, the start events by whether a round is in progress. -/
theorem startEventsBeginRoundsOrOverrun : Obligations.StartEventsBeginRoundsOrOverrun := by
  intro s u finds
  have pacer : exec .pacerExpiry s = .next (conclude (expirePacer u)) :=
    congrArg Host.Outcome.next (takeEvent_finds _ finds)
  have convIn : ∀ edge, exec (.convInEdge edge) s = .next (conclude (takeConvIn edge u)) := fun edge =>
    congrArg Host.Outcome.next (takeEvent_finds _ finds)
  refine ⟨?expiry, fun stopped => by rw [pacer, expirePacer_stopped stopped],
    fun edge accepted => by rw [convIn, takeConvIn_accepted accepted], ?edge⟩
  case expiry =>
    rintro period left _ running rfl
    exact ⟨fun k quiet first => by rw [pacer, expirePacer_begins running quiet first]; rfl,
      fun busy => by rw [pacer, expirePacer_overruns running busy]⟩
  case edge =>
    rintro edge _ moved rfl
    rw [convIn]
    refine ⟨fun still => by rw [takeConvIn_moves moved still], fun k rising source acquires quiet first => ?_,
      fun rising source acquires busy => ?_⟩
    · have begins := (takeConvIn_starts moved rising source acquires).trans (startEvent_begins quiet first)
      exact congrArg (fun t => Host.Outcome.next (conclude t)) begins
    · have overruns := (takeConvIn_starts moved rising source acquires).trans (startEvent_overruns busy)
      exact congrArg (fun t => Host.Outcome.next (conclude t)) overruns

/-! ## The slots of a round (R91, R96) -/

theorem convertedStreams_eq (s : State) : convertedStreams s
    = (List.finRange 16).filter fun k => s.streams[k].enabled && decide (k.val < s.scan.length) := by
  rw [convertedStreams, allStreams_eq]

/-- Whether a round converts a stream: enabled, with a slot (R91). -/
theorem mem_convertedStreams {k : Fin 16} {s : State} :
    k ∈ convertedStreams s ↔ (s.streams[k].enabled && decide (k.val < s.scan.length)) = true := by
  rw [convertedStreams_eq, List.mem_filter, and_iff_right (List.mem_finRange k)]

/-- The slot that follows is the next one of the round, by number (R96). -/
theorem slotAfter_eq_some_iff (k j : Fin 16) (s : State) : slotAfter k s = some j ↔
    (k < j ∧ j ∈ convertedStreams s ∧ ∀ i ∈ convertedStreams s, k < i → j ≤ i) := by
  have first : slotAfter k s = some j ↔
      (j ∈ convertedStreams s ∧ k < j) ∧ ∀ i < j, ¬(i ∈ convertedStreams s ∧ k < i) := by
    rw [slotAfter, convertedStreams_eq, List.find?_filter, ← Fin.find?_eq_find?_finRange, Fin.find?_eq_some_iff,
      ← convertedStreams_eq]
    simp only [← mem_convertedStreams, decide_eq_true_eq, decide_eq_false_iff_not]
  rw [first]
  constructor
  · rintro ⟨⟨member, beyond⟩, before⟩
    exact ⟨beyond, member, fun i listed after => not_lt.mp fun lower => before i lower ⟨listed, after⟩⟩
  · rintro ⟨beyond, member, least⟩
    exact ⟨⟨member, beyond⟩, fun i lower ⟨listed, after⟩ => not_le.mpr lower (least i listed after)⟩

theorem slotOf_eq {k : Fin 16} {slot : Slot} {s : State} (h : s.scan[k.val]? = some slot) : slotOf k s = slot := by
  rw [slotOf, List.getD_eq_getElem?_getD, h, Option.getD_some]

/-! ## Raw codes and samples (R92, R93, R224) -/

/-- Between two steps the code is that of the lower or of the upper one; on a step there is no choice (R224; log 6). -/
theorem rawCode_cases (gain : Fin 4) (level : Nat) (roundUp : Bool) :
    rawCode gain level roundUp = max 0 (min 4095 (2048 + amplified gain level / 1000))
    ∨ (amplified gain level % 1000 ≠ 0
      ∧ rawCode gain level roundUp = max 0 (min 4095 (2049 + amplified gain level / 1000))) := by
  by_cases step : amplified gain level % 1000 = 0
  · left
    simp [rawCode, clipCode, betweenSteps, step]
  · cases roundUp with
    | false => left; simp [rawCode, clipCode]
    | true =>
      have upper : 2048 + amplified gain level / 1000 + 1 = 2049 + amplified gain level / 1000 := by omega
      right
      exact ⟨step, by simp [rawCode, clipCode, betweenSteps, step, upper]⟩

theorem rawCode_nonneg (gain : Fin 4) (level : Nat) (roundUp : Bool) : 0 ≤ rawCode gain level roundUp :=
  Int.le_max_left 0 _

/-- Only the inverted code 0 is outside the range of a sample and gives 2047 (R93). -/
theorem signedSample_inverted {code : Int} (low : 0 ≤ code) :
    signedSample .inverted code = if code = 0 then 2047 else -(code - 2048) := by
  rw [signedSample]
  split <;> omega

/-! ## A conversion that completes (R93, R96, R113) -/

theorem drawRounding_eq (slot : Slot) (level : Nat) (s : State) :
    drawRounding slot level s = { s with draws := (drawRounding slot level s).draws } := by
  unfold drawRounding
  split <;> rfl

/-- A filter with no output due takes a raw sample: an output is due when the count reaches D (R113). -/
theorem takeRaw_eq {f : FilterState} (notDue : f.due = none) (decimation : Nat) (raw : RawSample) :
    takeRaw decimation raw f = { f with
      delayLine := (raw.value :: f.delayLine).take f.delayLine.length
      count := f.count + 1
      due := if f.count + 1 = decimation then some raw else none } := by
  rw [takeRaw, notDue]
  rfl

theorem completeConversion_eq {start : Time} {k : Fin 16} {overdue : Int} {level : Nat} {s : State} {sample : Int}
    (notDue : s.filters[k].due = none)
    (converted : convertedSample (slotOf k s) level (Config.conversionRoundsUp s.draws) = sample) :
    completeConversion start k overdue level s = { s with
      draws := (drawRounding (slotOf k s) level s).draws
      filters := put s.filters k
        { s.filters[k] with
          delayLine := (sample :: s.filters[k].delayLine).take s.filters[k].delayLine.length
          count := s.filters[k].count + 1
          due := if s.filters[k].count + 1 = s.streams[k].decimation then some { value := sample, start := start }
            else none }
      round := roundAfter start k overdue s } := by
  subst converted
  rw [completeConversion, drawRounding_eq, takeRaw_eq notDue]
  rfl

section

variable {level : Nat} {s : State}

theorem finishConversion_none (quiet : s.round = .noRound) : finishConversion level s = s := by
  simp only [finishConversion, quiet]

theorem finishConversion_inRound {start : Time} {k : Fin 16} {left : Int} (round : s.round = .inRound start k left) :
    finishConversion level s = completeConversion start k (min left 0) level (elapse left.toNat s) := by
  simp only [finishConversion, round]

theorem takeConversion_none (quiet : s.round = .noRound) : takeConversion level s = s := by
  simp only [takeConversion, quiet]

theorem takeConversion_inRound {start : Time} {k : Fin 16} {left : Int} (round : s.round = .inRound start k left) :
    takeConversion level s = finishConversion level (takeDueOutput k s) := by
  simp only [takeConversion, round]

end

theorem takeDueOutput_eq (k : Fin 16) (s : State) :
    takeDueOutput k s = if s.filters[k].due = none then s else settle (conclude (takeOutput k s)) := by
  rw [takeDueOutput, outputDue]
  cases s.filters[k].due <;> rfl

/-- Settles O24: the earlier output is taken first, so that the filter that takes the sample has none due. -/
theorem conversionsHandOverTheirSample : Obligations.ConversionsHandOverTheirSample := by
  refine ⟨fun level s u finds => ?_, convertedStreams_eq, slotAfter_eq_some_iff, fun _ => rfl, fun _ => rfl,
    fun _ _ _ => slotOf_eq, fun _ _ => rfl⟩
  have run : exec (.conversionComplete level) s = .next (conclude (takeConversion level u)) :=
    congrArg Host.Outcome.next (takeEvent_finds _ finds)
  refine ⟨fun quiet => by rw [run, takeConversion_none quiet], fun start₀ k left₀ w begun taken => ?_⟩
  rw [← takeDueOutput_eq] at taken
  rw [run, takeConversion_inRound begun, ← taken]
  refine ⟨fun ended => by rw [finishConversion_none ended], ?_⟩
  rintro start left _ round rfl
  have notDue : w.filters[k].due = none := taken ▸ takeDueOutput_notDue k u
  have completed := (finishConversion_inRound (level := level) round).trans
    (completeConversion_eq (s := elapse left.toNat w) notDue rfl)
  refine ⟨rawCode (slotOf k w).gain level (Config.conversionRoundsUp w.draws),
    signedSample (slotOf k w).polarity (rawCode (slotOf k w).gain level (Config.conversionRoundsUp w.draws)), _,
    rawCode_cases _ _ _, ?_, congrArg (fun t => Host.Outcome.next (conclude t)) completed⟩
  cases (slotOf k w).polarity with
  | normal => rfl
  | inverted => exact signedSample_inverted (rawCode_nonneg _ _ _)

end Sys2Proof.Machine
end

section
/-! PROOFS. The decimation filters' arithmetic: the accumulator, the clamp and the bypass value (chapter 6). -/

namespace Sys2Proof.Machine

/-! ## The accumulator (R114) -/

@[simp] theorem accumulate_nil_left (line : List Int) : accumulate [] line = 0 := rfl

@[simp] theorem accumulate_nil_right (coefficients : List Sample) : accumulate coefficients [] = 0 := by
  simp [accumulate]

@[simp] theorem accumulate_cons_cons (c : Sample) (x : Int) (coefficients : List Sample) (line : List Int) :
    accumulate (c :: coefficients) (x :: line) = c.toInt * x + accumulate coefficients line := by
  simp [accumulate]

/-- The sum runs over the set's taps; one beyond the delay line's end reads 0. -/
theorem accumulate_eq_sum_range (coefficients : List Sample) (line : List Int) : accumulate coefficients line
    = ((List.range coefficients.length).map fun i => (coefficients.getD i 0).toInt * line.getD i 0).sum := by
  induction coefficients generalizing line with
  | nil => rfl
  | cons c coefficients ih =>
    cases line with
    | nil => simp
    | cons x line => simp [List.sum_range_succ', ih]

/-- The extremes of one tap are 32767 and -32768 times -2048; each bound is the mean of the two products of distances to
the limits that touch it at its extreme. -/
theorem tap_range (c : Sample) {x : Int} (low : -2048 ≤ x) (high : x ≤ 2047) :
    -67106816 ≤ c.toInt * x ∧ c.toInt * x ≤ 67108864 := by
  have cLow : -32768 ≤ c.toInt := c.le_toInt
  have cHigh : c.toInt ≤ 32767 := Int.le_of_lt_add_one c.toInt_lt
  constructor
  · linarith [mul_nonneg (sub_nonneg.mpr cHigh) (sub_nonneg.mpr high),
      mul_nonneg (sub_nonneg.mpr cLow) (sub_nonneg.mpr low)]
  · linarith [mul_nonneg (sub_nonneg.mpr cLow) (sub_nonneg.mpr high),
      mul_nonneg (sub_nonneg.mpr cHigh) (sub_nonneg.mpr low)]

theorem accumulate_range (coefficients : List Sample) {line : List Int} (raw : ∀ x ∈ line, -2048 ≤ x ∧ x ≤ 2047) :
    -67106816 * (coefficients.length : Int) ≤ accumulate coefficients line
      ∧ accumulate coefficients line ≤ 67108864 * (coefficients.length : Int) := by
  induction coefficients generalizing line with
  | nil => simp
  | cons c coefficients ih =>
    cases line with
    | nil =>
      rw [accumulate_nil_right]
      omega
    | cons x line =>
      obtain ⟨⟨low, high⟩, rest⟩ := List.forall_mem_cons.mp raw
      obtain ⟨tapLow, tapHigh⟩ := tap_range c low high
      obtain ⟨sumLow, sumHigh⟩ := ih rest
      rw [accumulate_cons_cons, List.length_cons]
      omega

/-! ## The clamp (R115) -/

theorem toInt_saturated (y : Int) : (saturated y).toInt = max (-32768) (min 32767 y) := by
  rw [saturated, BitVec.toInt_ofInt]
  exact Int.bmod_eq_of_le (by omega) (by omega)

theorem saturates_eq_false_iff (y : Int) : saturates y = false ↔ -32768 ≤ y ∧ y ≤ 32767 := by
  simp [saturates]

theorem toInt_saturated_of_saturates_eq_false {y : Int} (fits : saturates y = false) : (saturated y).toInt = y := by
  obtain ⟨low, high⟩ := (saturates_eq_false_iff y).mp fits
  rw [toInt_saturated, min_eq_right high, max_eq_right low]

/-! ## The bypass value (R116) -/

theorem bypass_range {x : Int} (low : -2048 ≤ x) (high : x ≤ 2047) : -32768 ≤ 16 * x ∧ 16 * x ≤ 32752 := by
  omega

theorem saturates_bypass {x : Int} (low : -2048 ≤ x) (high : x ≤ 2047) : saturates (16 * x) = false := by
  obtain ⟨bypassLow, bypassHigh⟩ := bypass_range low high
  exact (saturates_eq_false_iff _).mpr ⟨bypassLow, by omega⟩

/-- Settles O26: the range of the sum is 32 times the range of one tap. -/
theorem outputsStayInTheirRange : Obligations.OutputsStayInTheirRange := by
  refine ⟨accumulate_eq_sum_range, fun coefficients line taps raw => ?_, toInt_saturated, fun x low high => ?_⟩
  · obtain ⟨sumLow, sumHigh⟩ := accumulate_range coefficients raw
    omega
  · have fits : saturates (16 * x) = false := saturates_bypass low high
    exact ⟨fits, toInt_saturated_of_saturates_eq_false fits, bypass_range low high⟩

end Sys2Proof.Machine
end

section
/-! PROOFS. The Start that is refused: each check as its condition, and the first that fails (R123, R124). -/

namespace Sys2Proof.Machine

/-! ## The checks as conditions (R23, R123, R124) -/

theorem usableProfile_iff {p : Fin 4} {s : State} : usableProfile p s = true ↔ ProfileUsable p s :=
  ⟨profileUsable_of, usableProfile_of⟩

theorem usableOrNone_iff {p : Option (Fin 4)} {s : State} :
    usableOrNone p s = true ↔ ∀ q, p = some q → ProfileUsable q s := by
  cases p with
  | none => exact ⟨fun _ => nofun, fun _ => rfl⟩
  | some p => simp only [usableOrNone, usableProfile_iff, Option.some.injEq, forall_eq']

theorem watchPasses_iff {d : WatchDefinition} {s : State} : watchPasses d s = true ↔ WatchSound d s := by
  rw [watchPasses, WatchSound, ← usableOrNone_iff]
  cases d.enabled <;> simp

theorem externalPasses_iff {d : ExternalDefinition} {s : State} : externalPasses d s = true ↔ ExternalSound d s := by
  rw [externalPasses, ExternalSound, ← usableOrNone_iff]
  cases d.enabled <;> simp

theorem isLoaded_iff {k : Fin 16} {s : State} (enabled : s.streams[k].enabled = true) :
    isLoaded s.streams[k].filter s = true ↔ StreamLoaded k s := by
  refine ⟨fun loaded _ set named => ?_, fun loaded => isLoaded_of loaded enabled⟩
  rw [named, isLoaded] at loaded
  simpa using loaded

theorem chosen_iff {s : State} : (!s.scan.isEmpty && !(enabledStreams s).isEmpty) = true ↔ StreamsChosen s := by
  rw [Bool.and_eq_true, Bool.not_eq_true', Bool.not_eq_true', List.isEmpty_eq_false_iff,
    List.isEmpty_eq_false_iff_exists_mem]
  simp only [mem_enabledStreams]

theorem paceFits_iff {s : State} : paceFits s = true ↔ PaceSound s := by
  simp [paceFits, PaceSound, imp_iff_not_or]

/-! ## The first stream or watch that fails (R123, R124) -/

section

variable {s : State} {k : Fin 16} {w : Fin 8}

theorem find?_enabledStreams {passes : Fin 16 → Bool} (enabled : s.streams[k].enabled = true)
    (fails : passes k = false) (before : ∀ j < k, s.streams[j].enabled = true → passes j = true) :
    (enabledStreams s).find? (fun j => !passes j) = some k := by
  rw [enabledStreams, allStreams_eq, List.find?_filter]
  refine find?_finRange (by rw [enabled, fails]; rfl) fun j below => ?_
  cases on : s.streams[j].enabled with
  | false => rfl
  | true => rw [before j below on]; rfl

theorem slotless_eq_none (slotted : ∀ j, StreamSlotted j s) : slotless s = none :=
  List.find?_eq_none.mpr fun j member => by simpa using slotted j (mem_enabledStreams.mp member)

theorem slotless_eq_some (before : ∀ j < k, StreamSlotted j s) (fails : ¬ StreamSlotted k s) : slotless s = some k := by
  obtain ⟨enabled, outside⟩ := Classical.not_imp.mp fails
  exact find?_enabledStreams enabled (decide_eq_false outside) fun j below on => decide_eq_true (before j below on)

theorem unloaded_eq_none (loaded : ∀ j, StreamLoaded j s) : unloaded s = none :=
  List.find?_eq_none.mpr fun j member => by rw [isLoaded_of (loaded j) (mem_enabledStreams.mp member)]; nofun

theorem unloaded_eq_some (before : ∀ j < k, StreamLoaded j s) (fails : ¬ StreamLoaded k s) : unloaded s = some k := by
  have enabled : s.streams[k].enabled = true := (Classical.not_imp.mp fails).1
  have empty : isLoaded s.streams[k].filter s = false := Bool.eq_false_iff.mpr (mt (isLoaded_iff enabled).mp fails)
  exact find?_enabledStreams (passes := fun j => isLoaded s.streams[j].filter s) enabled empty
    fun j below on => isLoaded_of (before j below) on

theorem failingWatch_eq_none (sound : ∀ v : Fin 8, WatchSound s.watches[v].definition s) : failingWatch s = none :=
  List.find?_eq_none.mpr fun v _ => by rw [watchPasses_of (sound v)]; nofun

theorem failingWatch_eq_some (before : ∀ v < w, WatchSound s.watches[v].definition s)
    (fails : ¬ WatchSound s.watches[w].definition s) : failingWatch s = some w := by
  rw [failingWatch, show allWatches = List.finRange 8 by decide]
  refine find?_finRange ?_ fun v below => ?_
  · rw [Bool.eq_false_iff.mpr (mt watchPasses_iff.mp fails), Bool.not_false]
  · rw [watchPasses_of (before v below), Bool.not_true]

end

/-! ## The first check that fails (R123) -/

theorem unlessOk_passes {α : Type} {passes : Bool} {status : Status} {detail : Byte} {v : Verdict α}
    (h : passes = true) : unlessOk passes status detail v = v := if_pos h

theorem unlessOk_fails {α : Type} {passes : Bool} {status : Status} {detail : Byte} {v : Verdict α}
    (h : passes = false) : unlessOk passes status detail v = refuse status detail := by rw [h]; rfl

theorem unlessOk_none {α : Type} {n : Nat} {first : Option (Fin n)} {status : Status} {detail : Byte} {v : Verdict α}
    (h : first = none) : unlessOk first.isNone status detail v = v := unlessOk_passes (by rw [h]; rfl)

theorem unlessOk_some {α : Type} {n base : Nat} {first : Option (Fin n)} {k : Fin n} {status : Status} {v : Verdict α}
    (h : first = some k) :
    unlessOk first.isNone status (failDetail base first) v = refuse status (byteOf (base + k.val)) := by rw [h]; rfl

/-- Steps 5 and 6 of a Start: the history pages and the pace (R123). -/
def checkLimits (s : State) : Verdict Unit :=
  unlessOk (decide (historySum s ≤ historyTotal)) .poolOvercommit (byteOf (historySum s - historyTotal)) <|
  unlessOk (paceFits s) .paceTooFast (byteOf (roundMicroseconds s + 2)) (.ok ())

/-- Steps 2 to 6 of a Start: the enabled streams, the watches, the external trigger, then the limits (R123). -/
def checkSources (s : State) : Verdict Unit :=
  unlessOk (slotless s).isNone .notConfigured (failDetail 0 (slotless s)) <|
  unlessOk (unloaded s).isNone .notConfigured (failDetail 0 (unloaded s)) <|
  unlessOk (failingWatch s).isNone .notConfigured (failDetail 0x20 (failingWatch s)) <|
  unlessOk (externalPasses s.external.definition s) .notConfigured 0x28 (checkLimits s)

section

variable {s : State}

theorem checkStart_busy (busy : s.acquisition ≠ .idle) : checkStart s = refuse .wrongState 0xFF := by
  rw [checkStart, unlessOk_fails (decide_eq_false busy)]

theorem checkStart_unchosen (idle : s.acquisition = .idle) (unchosen : ¬ StreamsChosen s) :
    checkStart s = refuse .notConfigured 0xFF := by
  rw [checkStart, unlessOk_passes (decide_eq_true idle),
    unlessOk_fails (Bool.eq_false_iff.mpr (mt chosen_iff.mp unchosen))]

theorem checkStart_chosen (idle : s.acquisition = .idle) (chosen : StreamsChosen s) :
    checkStart s = checkSources s := by
  rw [checkStart, unlessOk_passes (decide_eq_true idle), unlessOk_passes (chosen_iff.mpr chosen)]
  rfl

theorem checkSources_slotless {k : Fin 16} (before : ∀ j < k, StreamSlotted j s) (fails : ¬ StreamSlotted k s) :
    checkSources s = refuse .notConfigured (byteOf k.val) := by
  rw [checkSources, unlessOk_some (slotless_eq_some before fails), Nat.zero_add]

theorem checkSources_unloaded {k : Fin 16} (slotted : ∀ j, StreamSlotted j s) (before : ∀ j < k, StreamLoaded j s)
    (fails : ¬ StreamLoaded k s) : checkSources s = refuse .notConfigured (byteOf k.val) := by
  rw [checkSources, unlessOk_none (slotless_eq_none slotted), unlessOk_some (unloaded_eq_some before fails),
    Nat.zero_add]

/-- Once every enabled stream has a slot and a filter, step 4 is left. -/
theorem checkSources_streams (streams : ∀ j, StreamSlotted j s ∧ StreamLoaded j s) :
    checkSources s
      = unlessOk (failingWatch s).isNone .notConfigured (failDetail 0x20 (failingWatch s))
          (unlessOk (externalPasses s.external.definition s) .notConfigured 0x28 (checkLimits s)) := by
  rw [checkSources, unlessOk_none (slotless_eq_none fun j => (streams j).1),
    unlessOk_none (unloaded_eq_none fun j => (streams j).2)]

theorem checkSources_watch {w : Fin 8} (streams : ∀ j, StreamSlotted j s ∧ StreamLoaded j s)
    (before : ∀ v < w, WatchSound s.watches[v].definition s) (fails : ¬ WatchSound s.watches[w].definition s) :
    checkSources s = refuse .notConfigured (byteOf (0x20 + w.val)) := by
  rw [checkSources_streams streams, unlessOk_some (failingWatch_eq_some before fails)]

theorem checkSources_external (streams : ∀ j, StreamSlotted j s ∧ StreamLoaded j s)
    (watches : ∀ w : Fin 8, WatchSound s.watches[w].definition s) (fails : ¬ ExternalSound s.external.definition s) :
    checkSources s = refuse .notConfigured 0x28 := by
  rw [checkSources_streams streams, unlessOk_none (failingWatch_eq_none watches),
    unlessOk_fails (Bool.eq_false_iff.mpr (mt externalPasses_iff.mp fails))]

theorem checkSources_sound (sound : SourcesSound s) : checkSources s = checkLimits s := by
  obtain ⟨streams, watches, external⟩ := sound
  rw [checkSources_streams streams, unlessOk_none (failingWatch_eq_none watches),
    unlessOk_passes (externalPasses_of external)]

theorem checkLimits_overcommit (deep : 128 < enabledHistory s) :
    checkLimits s = refuse .poolOvercommit (byteOf (enabledHistory s - 128)) := by
  rw [checkLimits, historySum_eq]
  exact unlessOk_fails (decide_eq_false (Nat.not_le_of_gt deep))

theorem checkLimits_fast (shallow : enabledHistory s ≤ 128) (fast : ¬ PaceSound s) :
    checkLimits s = refuse .paceTooFast (byteOf (roundMicroseconds s + 2)) := by
  have fits : decide (enabledHistory s ≤ historyTotal) = true := decide_eq_true shallow
  rw [checkLimits, historySum_eq, unlessOk_passes fits,
    unlessOk_fails (Bool.eq_false_iff.mpr (mt paceFits_iff.mp fast))]

end

/-! ## The answer (R123, R124) -/

theorem runStart_refused {r : Request} {s : State} {status : Status} {detail : Byte} (payload : r.payload = [])
    (refused : checkStart s = refuse status detail) : runStart none r s = refusedWith r status detail s := by
  refine answer_refuse ?_
  rw [payload, refused]
  rfl

/-- Settles O47: the verdict is that of the first check that fails, and the refusal is its reply. -/
theorem startsAreRefusedInOrder : Obligations.StartsAreRefusedInOrder := by
  intro r s u finds type payload
  have run : exec .startAcquisition s = .next (conclude (runStart none r u)) := carriedOut finds type
  have answers : ∀ {status : Status} {detail : Byte}, checkStart u = refuse status detail →
      exec .startAcquisition s = .next (conclude (refusedWith r status detail u)) := fun refused => by
    rw [run, runStart_refused payload refused]
  refine ⟨fun busy => answers (checkStart_busy busy), fun idle unchosen => answers (checkStart_unchosen idle unchosen),
    ?slot, ?filter, ?watch, ?external, ?history, ?pace⟩
  case slot =>
    exact fun k idle chosen before fails =>
      answers ((checkStart_chosen idle chosen).trans (checkSources_slotless before fails))
  case filter =>
    exact fun k idle chosen slotted before fails =>
      answers ((checkStart_chosen idle chosen).trans (checkSources_unloaded slotted before fails))
  case watch =>
    exact fun w idle chosen streams before fails =>
      answers ((checkStart_chosen idle chosen).trans (checkSources_watch streams before fails))
  case external =>
    exact fun idle chosen streams watches fails =>
      answers ((checkStart_chosen idle chosen).trans (checkSources_external streams watches fails))
  case history =>
    exact fun idle chosen sound deep => answers <|
      (checkStart_chosen idle chosen).trans ((checkSources_sound sound).trans (checkLimits_overcommit deep))
  case pace =>
    exact fun idle chosen sound shallow fast => answers <|
      (checkStart_chosen idle chosen).trans ((checkSources_sound sound).trans (checkLimits_fast shallow fast))

end Sys2Proof.Machine
end

section
/-! PROOFS. The Alarm Unit's requests, expiries and acknowledgements (R134 to R141, R211). -/

namespace Sys2Proof.Machine

/-! ## The id of a new entry (R135) -/

theorem idInUse_iff {alarms : List AlarmEntry} {id : Byte} : idInUse alarms id = true ↔ ∃ e ∈ alarms, e.id = id := by
  simp [idInUse]

theorem idsFrom_eq_map (count : Nat) (next : Byte) :
    idsFrom count next = (List.range count).map fun j => next + BitVec.ofNat 8 j := by
  induction count generalizing next with
  | zero => rfl
  | succ count ih =>
    have shift : ∀ j, next + 1 + BitVec.ofNat 8 j = next + BitVec.ofNat 8 (j + 1) := fun j => by
      rw [BitVec.ofNat_add, BitVec.add_comm (BitVec.ofNat 8 j), ← BitVec.add_assoc]
      rfl
    rw [idsFrom, ih, List.range_succ_eq_map, List.map_cons, List.map_map]
    exact congrArg₂ List.cons (BitVec.add_zero next).symm (List.map_congr_left fun j _ => shift j)

/-- Ids tried in turn that are all in use are no more than the entries. -/
theorem idsTried_le_entries {alarms : List AlarmEntry} {next : Byte} {j : Nat} (short : j ≤ 256)
    (used : ∀ m < j, ∃ e ∈ alarms, e.id = next + BitVec.ofNat 8 m) : j ≤ alarms.length := by
  have within : idsFrom j next ⊆ alarms.map fun e => e.id := fun id tried => by
    obtain ⟨m, before, rfl⟩ := mem_idsFrom.mp tried
    exact List.mem_map.mpr (used m before)
  simpa [idsFrom_length] using ((idsFrom_nodup next short).subperm within).length_le

/-- With a place free in the list, a new entry takes the first id tried that no entry holds (R135). -/
theorem freshAlarmId_first {s : State} (room : s.alarms.length < 8) :
    ∃ j ≤ s.alarms.length, freshAlarmId s = s.nextAlarm + BitVec.ofNat 8 j
      ∧ ∀ m < j, ∃ e ∈ s.alarms, e.id = s.nextAlarm + BitVec.ofNat 8 m := by
  rw [freshAlarmId, idsFrom_eq_map, List.find?_map]
  cases found : (List.range (alarmTotal + 1)).find?
      ((fun id => !idInUse s.alarms id) ∘ fun j => s.nextAlarm + BitVec.ofNat 8 j) with
  | none =>
    have used : ∀ m < 9, ∃ e ∈ s.alarms, e.id = s.nextAlarm + BitVec.ofNat 8 m := fun m before =>
      idInUse_iff.mp (by simpa using List.find?_eq_none.mp found m (List.mem_range.mpr before))
    exact absurd (idsTried_le_entries (by decide) used) (by omega)
  | some j =>
    obtain ⟨-, tried, before⟩ := List.find?_range_eq_some.mp found
    have used : ∀ m < j, ∃ e ∈ s.alarms, e.id = s.nextAlarm + BitVec.ofNat 8 m := fun m earlier =>
      idInUse_iff.mp (by simpa using before m earlier)
    have few : j < 9 := List.mem_range.mp tried
    exact ⟨j, idsTried_le_entries (by omega) used, rfl, used⟩

/-! ## ALARM_REQUEST (R134 to R137) -/

theorem exec_alarmRequest {i : Nat} {s u : State} (finds : Finds s u) :
    exec (.alarmRequest i) s = .next (conclude (takeAlarmRequestAt i u)) :=
  congrArg Host.Outcome.next (takeEvent_finds (takeAlarmRequestAt i) finds)

/-- The part without one of the alarm requests on their way (log 15). -/
def withoutAlarmRequest (i : Nat) (s : State) : State := { s with alarmRequests := s.alarmRequests.eraseIdx i }

theorem takeAlarmRequestAt_none {i : Nat} {s : State} (none : s.alarmRequests[i]? = none) :
    takeAlarmRequestAt i s = s := by
  rw [takeAlarmRequestAt, none]

theorem takeAlarmRequestAt_some {i : Nat} {r : AlarmRequest} {s : State} (request : s.alarmRequests[i]? = some r) :
    takeAlarmRequestAt i s = takeAlarmRequest r (withoutAlarmRequest i s) := by
  rw [takeAlarmRequestAt, request]
  rfl

theorem countUp_dropCount (id : CounterId) (s : State) : (countUp id s).dropCount = s.dropCount := by
  obtain ⟨_, _, _, counted, -⟩ := countUp_shape id s
  rw [counted]

/-- With a place free, a PENDING entry joins the end of the list (R135). -/
theorem takeAlarmRequest_listed {r : AlarmRequest} {s : State} (room : s.alarms.length < 8) :
    takeAlarmRequest r s = { s with
      alarms := s.alarms ++
        [{ id := freshAlarmId s, source := r.source, time := r.time, value := r.value, record := r.record,
           sendCount := 0, state := .pending }]
      nextAlarm := freshAlarmId s + 1 } := if_pos room

/-- A list of 8 entries drops the request (R136). -/
theorem takeAlarmRequest_dropped {r : AlarmRequest} {s : State} (full : 8 ≤ s.alarms.length) :
    takeAlarmRequest r s = { countUp .alarmDropped s with dropCount := min 255 (s.dropCount + 1) } := by
  have drops : takeAlarmRequest r s = addDrops 1 (countUp .alarmDropped s) := if_neg (Nat.not_lt.mpr full)
  rw [drops, addDrops, countUp_dropCount]
  rfl

/-- Settles O37: the request by its place among those on their way, and by the room in the list. -/
theorem alarmRequestsAreListedOrDropped : Obligations.AlarmRequestsAreListedOrDropped := by
  rintro i s u _ finds rfl
  rw [exec_alarmRequest finds]
  refine ⟨fun none => by rw [takeAlarmRequestAt_none none], fun r request room => ?listed,
    fun r request full => ?dropped⟩
  case dropped =>
    have drops := takeAlarmRequest_dropped (r := r) (s := withoutAlarmRequest i u) full
    rw [takeAlarmRequestAt_some request, drops]
    rfl
  case listed =>
    obtain ⟨j, few, first, used⟩ := freshAlarmId_first room
    have fresh : ∀ e ∈ u.alarms, e.id ≠ freshAlarmId u := fun e member same =>
      freshAlarmId_fresh room (List.mem_map.mpr ⟨e, member, same⟩)
    have joins := takeAlarmRequest_listed (r := r) (s := withoutAlarmRequest i u) room
    rw [takeAlarmRequestAt_some request, joins]
    exact ⟨rfl, j, few, first, fresh, used⟩

/-! ## ACKNOWLEDGEMENT_TIMER_EXPIRY (R139, R140) -/

theorem exec_acknowledgementTimerExpiry {id : Byte} {s u : State} (finds : Finds s u) :
    exec (.acknowledgementTimerExpiry id) s = .next (conclude (takeAlarmExpiry id u)) :=
  congrArg Host.Outcome.next (takeEvent_finds (takeAlarmExpiry id) finds)

theorem takeAlarmExpiry_waiting {id : Byte} {e : AlarmEntry} {left : Nat} {s : State} (found : findAlarm id s = some e)
    (waiting : e.state = .waiting left) : takeAlarmExpiry id s = expireAcknowledgement e (elapse left s) := by
  simp only [takeAlarmExpiry, found, waiting]

theorem takeAlarmExpiry_stays {id : Byte} {s : State}
    (stays : ∀ e left, findAlarm id s = some e → e.state ≠ .waiting left) : takeAlarmExpiry id s = s := by
  unfold takeAlarmExpiry
  split
  · next e found =>
    split
    · next left waiting => exact absurd waiting (stays e left found)
    · rfl
    · rfl
  · rfl

theorem findAlarm_id {id : Byte} {e : AlarmEntry} {s : State} (found : findAlarm id s = some e) : e.id = id := by
  simpa using List.find?_some found

theorem expireAcknowledgement_resends {e : AlarmEntry} (few : e.sendCount < 3) (s : State) :
    expireAcknowledgement e s = changeAlarm e.id (fun x => { x with state := .pending }) s := if_pos few

theorem expireAcknowledgement_givesUp {e : AlarmEntry} (enough : 3 ≤ e.sendCount) (s : State) :
    expireAcknowledgement e s
      = countUp .alarmUndelivered (raiseNotice (.alarmLost e.id e.source e.time e.record) (removeAlarm e.id s)) :=
  if_neg (Nat.not_lt.mpr enough)

/-! ## Acknowledge Alarm (R136, R141, R211) -/

/-- A payload of one byte with no other bound is read as it is. -/
theorem readByte_any (b : Byte) : readByte 256 [b] = .ok b :=
  checkFields_ok (by simpa [below] using b.isLt) b

theorem acknowledgeVerdict_eq {r : Request} {id : Byte} (payload : r.payload = [id]) (s : State) :
    (readByte 256 r.payload).bind (checkAcknowledge s)
      = unlessOk (idInUse s.alarms id) .noAlarm 0xFF (.ok id) := by
  rw [payload, readByte_any]
  rfl

theorem runAcknowledgeAlarm_absent {r : Request} {id : Byte} {s : State} (payload : r.payload = [id])
    (absent : ∀ e ∈ s.alarms, e.id ≠ id) : runAcknowledgeAlarm none r s = refusedWith r .noAlarm 0xFF s := by
  have unused : idInUse s.alarms id = false :=
    Bool.eq_false_iff.mpr fun used => by
      obtain ⟨e, member, same⟩ := idInUse_iff.mp used
      exact absent e member same
  exact answer_refuse ((acknowledgeVerdict_eq payload s).trans (unlessOk_fails unused))

theorem runAcknowledgeAlarm_present {r : Request} {id : Byte} {s : State} (payload : r.payload = [id])
    (present : ∃ e ∈ s.alarms, e.id = id) : runAcknowledgeAlarm none r s = replied r [] (acknowledge id s) := by
  rw [runAcknowledgeAlarm, acknowledgeVerdict_eq payload, unlessOk_passes (idInUse_iff.mpr present)]
  exact answerAccepted_quiet r (fun t => (acknowledge id t, [])) s (acknowledge id s) [] rfl

/-- Settles O38: the expiry by what the list holds under the id, and the two answers to an acknowledgement. -/
theorem alarmsEndByAcknowledgementOrExpiry : Obligations.AlarmsEndByAcknowledgementOrExpiry := by
  refine ⟨?expiry, ?acknowledgement⟩
  case expiry =>
    intro id s u finds
    rw [exec_acknowledgementTimerExpiry finds]
    refine ⟨fun stays => by rw [takeAlarmExpiry_stays stays], ?_⟩
    rintro e left _ found waiting rfl
    obtain rfl := findAlarm_id found
    rw [takeAlarmExpiry_waiting found waiting]
    exact ⟨fun few => by rw [expireAcknowledgement_resends few]; rfl,
      fun enough => by rw [expireAcknowledgement_givesUp enough]; rfl⟩
  case acknowledgement =>
    intro r s u id finds type payload
    have run : exec .acknowledgeAlarm s = .next (conclude (runAcknowledgeAlarm none r u)) := carriedOut finds type
    rw [run]
    exact ⟨fun absent => by rw [runAcknowledgeAlarm_absent payload absent],
      fun e member same => by rw [runAcknowledgeAlarm_present payload ⟨e, member, same⟩]; rfl⟩

end Sys2Proof.Machine
end

section
/-! PROOFS. The counters' first occurrences and their notices (R145, R147 to R150). -/

namespace Sys2Proof.Machine

/-! ## Which counter (R148) -/

/-- The counters are listed in the order of their numbers. -/
theorem allCounters_at (id : CounterId) : allCounters[(counterIndex id).val]? = some id := by
  cases id <;> rfl

theorem counterIndex_injective : Function.Injective counterIndex := fun a b same => by
  have listed := allCounters_at a
  rw [same, allCounters_at b] at listed
  exact (Option.some.inj listed).symm

/-! ## Offers (R145, R150) -/

theorem noticeFits_iff (s : State) : noticeFits s = true ↔ s.transmit.normal.length ≤ 5 := by
  rw [noticeFits, decide_eq_true_iff, noticeReserve, normalTotal]
  omega

theorem offerNotice_queued {s : State} (room : s.transmit.normal.length ≤ 5) (n : Notice) :
    offerNotice n s = queueNormal (noticeFrame n) (markNotice n .reported s) :=
  if_pos ((noticeFits_iff s).mpr room)

theorem offerNotice_refused {s : State} (full : 6 ≤ s.transmit.normal.length) (n : Notice) :
    offerNotice n s = countDroppedNotice (markNotice n .unreported s) :=
  if_neg (mt (noticeFits_iff s).mp (by omega))

/-! ## First rises and later ones (R147 to R150) -/

/-- A rise from 0 and the mark it leaves. -/
theorem setMark_firstRise {id : CounterId} {s : State} (first : (counterOf s id).value = 0) (m : Mark) :
    setMark id m (countOne id s) = setCounter id { value := 1, mark := m } s := by
  have counted : counterOf (countOne id s) id = { counterOf s id with value := 1 } := by
    rw [countOne, first]
    exact put_self _ _ _
  rw [setMark, counted]
  exact congrArg (fun counters => { s with counters := counters }) (put_put _ _ _ _)

/-- NOTICE_DROPPED rises, and its own first rise makes its mark UNREPORTED (R150). -/
theorem countDroppedNotice_eq (s : State) :
    countDroppedNotice s = setCounter .noticeDropped
      { value := saturatingUp (counterOf s .noticeDropped).value
        mark := if (counterOf s .noticeDropped).value = 0 then .unreported else (counterOf s .noticeDropped).mark } s := by
  unfold countDroppedNotice
  split
  · next first =>
    rw [setMark_firstRise first, first]
    rfl
  · rfl

/-- With no notice held, a first rise offers its FAULT notice (R147). -/
theorem countUp_offers {id : CounterId} {s : State} (first : (counterOf s id).value = 0) (link : id ≠ .linkResets)
    (dropped : id ≠ .noticeDropped) (free : s.dispatcher.held = none) :
    countUp id s = offerNotice (.fault id s.clock.timebase) (countOne id s) := by
  have raised := raiseNotice_free (.fault id s.clock.timebase) (countOne id s) free
  unfold countUp
  rw [if_pos first]
  split
  · exact absurd rfl link
  · exact absurd rfl dropped
  · exact raised

theorem countUp_reported {id : CounterId} {s : State} (first : (counterOf s id).value = 0) (link : id ≠ .linkResets)
    (dropped : id ≠ .noticeDropped) (free : s.dispatcher.held = none) (room : s.transmit.normal.length ≤ 5) :
    countUp id s = queueNormal (noticeFrame (.fault id s.clock.timebase))
      (setCounter id { value := 1, mark := .reported } s) := by
  rw [countUp_offers first link dropped free, offerNotice_queued (s := countOne id s) room, markNotice,
    setMark_firstRise first]

theorem countUp_unreported {id : CounterId} {s : State} (first : (counterOf s id).value = 0) (link : id ≠ .linkResets)
    (dropped : id ≠ .noticeDropped) (free : s.dispatcher.held = none) (full : 6 ≤ s.transmit.normal.length) :
    countUp id s = countDroppedNotice (setCounter id { value := 1, mark := .unreported } s) := by
  rw [countUp_offers first link dropped free, offerNotice_refused (s := countOne id s) full, markNotice,
    setMark_firstRise first]

theorem countUp_noticeDropped_first {s : State} (first : (counterOf s .noticeDropped).value = 0) :
    countUp .noticeDropped s = setCounter .noticeDropped { value := 1, mark := .unreported } s :=
  (if_pos first).trans (setMark_firstRise first .unreported)

/-- Settles O39: a rise by the value that it finds, by the counter, and by the room for its notice. -/
theorem firstOccurrencesAreAnnounced : Obligations.FirstOccurrencesAreAnnounced := by
  rintro id _ s rfl free
  refine ⟨fun again => countUp_again again, fun first link dropped => ⟨fun room => ?queued, fun full => ?refused⟩,
    fun first link => ?linkResets, fun first dropped => ?noticeDropped⟩
  case queued => exact countUp_reported first link dropped free room
  case refused =>
    have other : counterIndex .noticeDropped ≠ counterIndex id := fun same => dropped (counterIndex_injective same).symm
    have standing : counterOf (setCounter id { value := 1, mark := .unreported } s) .noticeDropped
        = s.counters[(10 : Fin 16)] := put_other _ _ _ _ other
    rw [countUp_unreported first link dropped free full, countDroppedNotice_eq, standing]
    rfl
  case linkResets =>
    subst link
    have first : s.counters[(14 : Fin 16)].value = 0 := first
    rw [countUp_linkResets rfl, first]
    rfl
  case noticeDropped =>
    subst dropped
    exact countUp_noticeDropped_first first

end Sys2Proof.Machine
end

section
/-! PROOFS. The receiver, one character at a time (R153, R158 to R162, R166, R169). -/

namespace Sys2Proof.Machine

/-! ## The values of a character (R154, R155, R162) -/

theorem isReserved_iff (b : Byte) : isReserved b = true ↔ 0xE1 ≤ b.toNat ∧ b.toNat ≤ 0xE5 := decide_eq_true_iff

theorem isFollower_iff (b : Byte) : isFollower b = true ↔ 0xC1 ≤ b.toNat ∧ b.toNat ≤ 0xC5 := decide_eq_true_iff

/-- A value that is not reserved is none of the five that the link keeps for itself (R154). -/
theorem unreserved_cases {b : Byte} (plain : isReserved b = false) :
    b ≠ charOpen ∧ isLineMark b = false ∧ b ≠ charEscape := by
  have other (c : Byte) (reserved : isReserved c = true) : b ≠ c := by
    rintro rfl
    exact Bool.false_ne_true (plain.symm.trans reserved)
  refine ⟨other _ rfl, ?_, other _ rfl⟩
  simp only [isLineMark, beq_eq_false_iff_ne.mpr (other charSuspend rfl), beq_eq_false_iff_ne.mpr (other charResume rfl),
    beq_eq_false_iff_ne.mpr (other charAbort rfl), Bool.or_false]

/-- The follower of an ESCAPE and the byte that it stands for, 32 above (R155, R162). -/
theorem follower_stands_for {b : Byte} (low : 0xC1 ≤ b.toNat) (high : b.toNat ≤ 0xC5) :
    b ^^^ 0x20 = b + 32 ∧ (b + 32).toNat = b.toNat + 32 := by
  have all : ∀ n < 6, 0 < n → BitVec.ofNat 8 (0xC0 + n) ^^^ 0x20 = BitVec.ofNat 8 (0xC0 + n) + 32 := by decide
  have named : BitVec.ofNat 8 (0xC0 + (b.toNat - 0xC0)) = b := by
    rw [Nat.add_sub_cancel' (by omega), BitVec.ofNat_toNat, BitVec.setWidth_eq]
  have same := all (b.toNat - 0xC0) (by omega) (by omega)
  rw [named] at same
  exact ⟨same, by bv_omega⟩

/-! ## What the receiver takes (R153, R169) -/

theorem exec_rxCharacter {c : RxCharacter} {s u : State} (finds : Finds s u) :
    exec (.rxCharacter c) s = .next (conclude (receiveCharacter c u)) :=
  congrArg Host.Outcome.next (takeEvent_finds _ finds)

section

variable {s : State}

theorem receiveCharacter_marked (marked : s.receiver.breakMark = true) (c : RxCharacter) : receiveCharacter c s = s :=
  if_pos marked

/-- A character whose start bit fell in a reset is taken in no state of the receiver (R153). -/
theorem receiveCharacter_startedInReset (s : State) : receiveCharacter .startedInReset s = s := by
  unfold receiveCharacter
  split
  · rfl
  · split <;> rfl

theorem receiveCharacter_hunt (clear : s.receiver.breakMark = false) (state : s.receiver.state = .hunt)
    (c : RxCharacter) : receiveCharacter c s = takeInHunt c s := by
  rw [receiveCharacter, clear, if_neg Bool.false_ne_true, state]

theorem receiveCharacter_inFrame (clear : s.receiver.breakMark = false) (state : s.receiver.state = .inFrame)
    (c : RxCharacter) : receiveCharacter c s = takeInFrame c s := by
  rw [receiveCharacter, clear, if_neg Bool.false_ne_true, state]

theorem receiveCharacter_escapePending (clear : s.receiver.breakMark = false) (state : s.receiver.state = .escapePending)
    (c : RxCharacter) : receiveCharacter c s = takeEscaped c s := by
  rw [receiveCharacter, clear, if_neg Bool.false_ne_true, state]

/-! ## The receiver with the break mark clear (R158) -/

/-- IN_FRAME with the bytes collected and the expected count, the timer just started (R161, R163). -/
def collectingReceiver (content : List Byte) (expected : Option Nat) : Receiver :=
  { state := .inFrame, content := content, expected := expected, timer := some (milliseconds 20), breakMark := false }

theorem hunting_clear {r : Receiver} (clear : r.breakMark = false) : hunting r = resetReceiver := by
  rw [hunting, clear]
  rfl

theorem beginningFrame_clear {r : Receiver} (clear : r.breakMark = false) :
    beginningFrame r = collectingReceiver [] none := by
  rw [beginningFrame, clear]
  rfl

theorem framingError_hunts (clear : s.receiver.breakMark = false) :
    framingError false s = countUp .rxFraming { s with receiver := resetReceiver } := by
  rw [framingError, hunting_clear clear]
  rfl

theorem framingError_opens (clear : s.receiver.breakMark = false) :
    framingError true s = countUp .rxFraming { s with receiver := collectingReceiver [] none } := by
  rw [framingError, beginningFrame_clear clear]
  rfl

/-! ## A content byte (R161, R162) -/

/-- The expected count that a byte leaves: the third of the content is the length (R161). -/
theorem expectedAfter_append (content : List Byte) (b : Byte) (expected : Option Nat) :
    expectedAfter (content ++ [b]) b expected = if content.length = 2 then some (b.toNat + 5) else expected := by
  rw [expectedAfter, List.length_append, List.length_singleton]
  exact if_congr (Nat.add_right_cancel_iff (n := 1)) rfl rfl

theorem collectByte_collects {b : Byte} {expected : Option Nat} (clear : s.receiver.breakMark = false)
    (counted : expected = if s.receiver.content.length = 2 then some (b.toNat + 5) else s.receiver.expected)
    (more : expected ≠ some (s.receiver.content.length + 1)) :
    collectByte b s = { s with receiver := collectingReceiver (s.receiver.content ++ [b]) expected } := by
  rw [collectByte]
  simp only [expectedAfter_append, ← counted, List.length_append, List.length_singleton]
  rw [if_neg more, clear]
  rfl

theorem collectByte_completes {b : Byte} (clear : s.receiver.breakMark = false)
    (complete : (if s.receiver.content.length = 2 then some (b.toNat + 5) else s.receiver.expected)
      = some (s.receiver.content.length + 1)) :
    collectByte b s = checkFrame (s.receiver.content ++ [b]) { s with receiver := resetReceiver } := by
  rw [collectByte]
  simp only [expectedAfter_append, List.length_append, List.length_singleton]
  rw [if_pos complete, hunting_clear clear]
  rfl

/-! ## The characters by state (R160 to R162) -/

theorem takeInHunt_open (clear : s.receiver.breakMark = false) :
    takeInHunt (.good 0xE1) s = { s with receiver := collectingReceiver [] none } := by
  rw [← beginningFrame_clear clear]
  rfl

theorem takeInHunt_other {b : Byte} (other : b ≠ 0xE1) : takeInHunt (.good b) s = s := if_neg other

theorem takeInFrame_plain {b : Byte} (plain : isReserved b = false) : takeInFrame (.good b) s = collectByte b s := by
  obtain ⟨no_open, no_mark, no_escape⟩ := unreserved_cases plain
  simp only [takeInFrame, if_neg no_open, no_mark, Bool.false_eq_true, if_false, if_neg no_escape]

theorem takeEscaped_follower {b : Byte} (low : 0xC1 ≤ b.toNat) (high : b.toNat ≤ 0xC5) :
    takeEscaped (.good b) s = collectByte (b + 32) s := by
  have no_open : b ≠ charOpen := by rintro rfl; exact absurd high (by decide)
  have follows : isFollower b = true := (isFollower_iff b).mpr ⟨low, high⟩
  simp only [takeEscaped, if_neg no_open, follows, if_true, (follower_stands_for low high).1]

theorem takeEscaped_other {b : Byte} (no_open : b ≠ 0xE1) (other : ¬ (0xC1 ≤ b.toNat ∧ b.toNat ≤ 0xC5)) :
    takeEscaped (.good b) s = framingError false s := by
  have no_follower : ¬ isFollower b = true := mt (isFollower_iff b).mp other
  exact (if_neg no_open).trans (if_neg no_follower)

end

/-! ## The statements about one character -/

/-- Settles O9: with the mark set a break and a character change nothing, and its end clears the mark. -/
theorem breakMarkSilencesTheReceiver : Obligations.BreakMarkSilencesTheReceiver := by
  intro s u finds
  refine ⟨fun marked => ⟨fun taken => ?_, fun c => ?_⟩, ?_, ?_⟩
  · have ignored : takeBreak taken u = u := if_pos marked
    rw [exec_lineBreak finds, ignored]
  · rw [exec_rxCharacter finds, receiveCharacter_marked marked]
  · exact congrArg Host.Outcome.next (takeEvent_finds clearBreakMark finds)
  · rw [exec_rxCharacter finds, receiveCharacter_startedInReset]

/-- Settles O10: an OPEN, any other good character, and a character error. -/
theorem huntWaitsForAnOpen : Obligations.HuntWaitsForAnOpen := by
  intro s u finds clear state
  refine ⟨?_, fun b other => ?_, ?_⟩ <;> rw [exec_rxCharacter finds, receiveCharacter_hunt clear state]
  · rw [takeInHunt_open clear]
    rfl
  · rw [takeInHunt_other other]
  · rfl

/-- Settles O11: the reserved values one by one, and a content byte by whether it completes the frame. -/
theorem frameCollectsItsCharacters : Obligations.FrameCollectsItsCharacters := by
  intro s u finds clear state
  have taken (c : RxCharacter) : exec (.rxCharacter c) s = .next (conclude (takeInFrame c u)) := by
    rw [exec_rxCharacter finds, receiveCharacter_inFrame clear state]
  refine ⟨?opens, fun c marks => ?ends, ?escape, fun b expected plain counted more => ?collects,
    fun b plain complete => ?completes⟩
  case opens =>
    have error : takeInFrame (.good 0xE1) u = framingError true u := rfl
    rw [taken, error, framingError_opens clear]
    rfl
  case ends =>
    have error : takeInFrame c u = framingError false u := by
      obtain rfl | rfl | rfl | rfl := marks <;> rfl
    rw [taken, error, framingError_hunts clear]
    rfl
  case escape =>
    rw [taken]
    rfl
  case collects =>
    rw [taken, takeInFrame_plain plain, collectByte_collects clear counted more]
    rfl
  case completes =>
    rw [taken, takeInFrame_plain plain, collectByte_completes clear complete]
    rfl

/-- Settles O12: the follower of an ESCAPE stands for the byte 32 above it; every other character is an error. -/
theorem escapeTakesItsFollower : Obligations.EscapeTakesItsFollower := by
  intro s u finds clear state
  have taken (c : RxCharacter) : exec (.rxCharacter c) s = .next (conclude (takeEscaped c u)) := by
    rw [exec_rxCharacter finds, receiveCharacter_escapePending clear state]
  refine ⟨?opens, fun c other => ?ends, fun b expected low high counted more => ?collects,
    fun b low high complete => ?completes⟩
  case opens =>
    have error : takeEscaped (.good 0xE1) u = framingError true u := rfl
    rw [taken, error, framingError_opens clear]
    rfl
  case ends =>
    have error : takeEscaped c u = framingError false u := by
      obtain rfl | ⟨b, rfl, no_open, no_follower⟩ := other
      · rfl
      · exact takeEscaped_other no_open no_follower
    rw [taken, error, framingError_hunts clear]
    rfl
  case collects =>
    rw [← (follower_stands_for low high).2] at counted
    rw [taken, takeEscaped_follower low high, collectByte_collects clear counted more]
    rfl
  case completes =>
    rw [← (follower_stands_for low high).2] at complete
    rw [taken, takeEscaped_follower low high, collectByte_completes clear complete]
    rfl

end Sys2Proof.Machine
end

section
/-! PROOFS. Characters on the line: escapes, the length of a frame, the bits on TXD, the rates and the CRC (R153 to R157,
R223). -/

namespace Sys2Proof.Machine

/-! ## Escapes (R155) -/

theorem escapeByte_reserved {b : Byte} (reserved : isReserved b = true) : escapeByte b = [charEscape, b ^^^ 0x20] :=
  if_pos reserved

theorem escapeByte_plain {b : Byte} (plain : isReserved b = false) : escapeByte b = [b] :=
  if_neg (by rw [plain]; exact Bool.false_ne_true)

/-- The second character of an escape is the byte 32 below, and gives the byte back (R155, R162). -/
theorem escape_roundTrip {b : Byte} (reserved : isReserved b = true) :
    isFollower (b ^^^ 0x20) = true ∧ (b ^^^ 0x20) + 32 = b := by
  obtain ⟨low, high⟩ := (isReserved_iff b).mp reserved
  have all : ∀ n < 5, isFollower (BitVec.ofNat 8 (0xE1 + n) ^^^ 0x20) = true
      ∧ (BitVec.ofNat 8 (0xE1 + n) ^^^ 0x20) + 32 = BitVec.ofNat 8 (0xE1 + n) := by decide
  have named : BitVec.ofNat 8 (0xE1 + (b.toNat - 0xE1)) = b := by
    rw [Nat.add_sub_cancel' low, BitVec.ofNat_toNat, BitVec.setWidth_eq]
  rw [← named]
  exact all _ (by omega)

/-- A content takes one character for each byte, and one more for each reserved byte (R155). -/
theorem escaped_length (content : List Byte) :
    (content.flatMap escapeByte).length = content.length + (content.filter isReserved).length := by
  induction content with
  | nil => rfl
  | cons b rest ih =>
    rw [List.flatMap_cons, List.length_append, ih, List.length_cons]
    cases reserved : isReserved b with
    | true =>
      rw [escapeByte_reserved reserved, List.filter_cons_of_pos reserved, List.length_cons, List.length_cons,
        List.length_cons, List.length_nil]
      omega
    | false =>
      rw [escapeByte_plain reserved, List.filter_cons_of_neg (by rw [reserved]; exact Bool.false_ne_true),
        List.length_singleton]
      omega

theorem contentBytes_length (type tag : Byte) (payload : List Byte) :
    (contentBytes type tag payload).length = payload.length + 5 := by
  simp only [contentBytes, coveredBytes, lowFirst_two, List.length_append, List.length_cons, List.length_nil]

/-! ## The bits on TXD (R153, R223) -/

/-- Which bit is being sent, by the tenths of the character time that have passed (R153). -/
theorem bitBeingSent_eq {t : TransmitUnit} {T sent i : Nat} (rate : T = characterTime t.rate)
    (passed : sent = 10 * (T - t.lineTime)) (low : i * T ≤ sent) (high : sent < (i + 1) * T) : bitBeingSent t = i := by
  rw [bitBeingSent, ← rate, Nat.mul_comm, ← passed]
  exact Nat.div_eq_of_lt_le low high

theorem txdLevel_sending {s : State} {c : Byte} (line : s.transmit.line = some c) :
    txdLevel s = (lineBits c).getD (bitBeingSent s.transmit) .high := by
  rw [txdLevel, line]

/-- The data bits of a character stand after its start bit, the least significant first (R153). -/
theorem lineBits_data (c : Byte) {i : Nat} (inside : i < 8) :
    (lineBits c).getD (i + 1) .high = bitLevel (c.getLsbD i) := by
  interval_cases i <;> rfl

theorem lineBits_stop (c : Byte) : (lineBits c).getD 9 .high = .high := rfl

/-! ## The CRC (R157) -/

theorem crcBit_eq : crcBit = fun v : BitVec 16 => if v.getLsbD 15 then (v <<< 1) ^^^ 0x1021 else v <<< 1 := by
  funext v
  rw [crcBit, BitVec.msb_eq_getLsbD_last]

theorem crcOf_append (bytes : List Byte) (b : Byte) : crcOf (bytes ++ [b]) = crcByte (crcOf bytes) b := by
  rw [crcOf, List.foldl_append]
  rfl

/-- Settles O15: the escapes, a frame's length, the ten bits of a character, the rates, and the CRC byte by byte. -/
theorem reservedBytesAreEscaped : Obligations.ReservedBytesAreEscaped := by
  refine ⟨fun b reserved => ?escaped, fun b plain => ?plain, fun type tag payload => ⟨⟨_, rfl, rfl⟩, ?length⟩,
    fun s T left rate time => ⟨fun idle => ?idle, fun c sent line running within passed => ?bits⟩,
    ⟨fun pins => ?straps, by decide⟩, rfl, fun bytes b => ?crc, by decide +kernel⟩
  case escaped =>
    have reserved := (isReserved_iff b).mpr reserved
    exact ⟨escapeByte_reserved reserved, (escape_roundTrip reserved).1, by
      rw [BitVec.xor_assoc, BitVec.xor_self, BitVec.xor_zero]⟩
  case plain => exact escapeByte_plain (Bool.not_eq_true _ ▸ mt (isReserved_iff b).mp plain)
  case length =>
    rw [lineCharacters, List.length_cons, escaped_length, contentBytes_length]
    omega
  case idle => rw [txdLevel, idle]
  case bits =>
    subst time
    have bit {i : Nat} := bitBeingSent_eq (i := i) rate passed
    rw [txdLevel_sending line]
    refine ⟨fun start => ?_, fun i inside low high => ?_, fun stop => ?_⟩
    · rw [bit (i := 0) (by omega) (by omega)]
      rfl
    · rw [bit low high, lineBits_data c inside]
      rfl
    · rw [bit stop (by omega), lineBits_stop]
  case straps =>
    obtain ⟨rate1, rate0, _, _⟩ := pins
    cases rate1 <;> cases rate0 <;> rfl
  case crc =>
    rw [crcOf_append, ← crcBit_eq]
    rfl

end Sys2Proof.Machine
end

section
/-! PROOFS. Completed frames: queued, or discarded and counted, and the requests that the line carries (R155 to R165). -/

namespace Sys2Proof.Machine

/-! ## The inbound queue (R165) -/

theorem offerRequest_queued {s : State} (room : s.inbound.length < 4) (r : Request) :
    offerRequest r s = { s with inbound := s.inbound ++ [r] } := if_pos room

theorem offerRequest_discarded {s : State} (full : 4 ≤ s.inbound.length) (r : Request) :
    offerRequest r s = countUp .requestDiscarded s := if_neg (Nat.not_lt.mpr full)

/-! ## The check of a completed frame (R164) -/

/-- A frame whose CRC differs is discarded. -/
theorem checkFrame_differs {content : List Byte} (s : State)
    (differs : (crcOf (content.take (content.length - 2))).toNat ≠ valueOf (content.drop (content.length - 2))) :
    checkFrame content s = countUp .rxCrc s := if_neg differs

/-- A frame whose CRC agrees is offered, its length left out. -/
theorem checkFrame_agrees {type tag length : Byte} {payload crc : List Byte} (s : State) (two : crc.length = 2)
    (agrees : (crcOf (type :: tag :: length :: payload)).toNat = valueOf crc) :
    checkFrame (type :: tag :: length :: (payload ++ crc)) s
      = offerRequest { type := type, tag := tag, payload := payload } s := by
  have split : type :: tag :: length :: (payload ++ crc) = (type :: tag :: length :: payload) ++ crc := rfl
  have covered : ((type :: tag :: length :: payload) ++ crc).length - 2 = (type :: tag :: length :: payload).length := by
    rw [List.length_append, two, Nat.add_sub_cancel]
  rw [split, checkFrame, covered, List.take_left, List.drop_left]
  exact if_pos agrees

/-- A content of 5 bytes and more: type, tag, length and payload, and the CRC. -/
theorem content_split {content : List Byte} (five : 5 ≤ content.length) :
    ∃ type tag length payload, content.take (content.length - 2) = type :: tag :: length :: payload
      ∧ content = type :: tag :: length :: (payload ++ content.drop (content.length - 2)) := by
  have long : 3 ≤ (content.take (content.length - 2)).length := by
    rw [List.length_take]
    omega
  have whole := List.take_append_drop (content.length - 2) content
  match covered : content.take (content.length - 2), long with
  | type :: tag :: length :: payload, _ =>
    rw [covered] at whole
    exact ⟨type, tag, length, payload, rfl, whole.symm⟩

/-- A frame whose CRC agrees finds the inbound queue full. -/
theorem checkFrame_full {content : List Byte} {s : State} (five : 5 ≤ content.length)
    (agrees : (crcOf (content.take (content.length - 2))).toNat = valueOf (content.drop (content.length - 2)))
    (full : 4 ≤ s.inbound.length) : checkFrame content s = countUp .requestDiscarded s := by
  obtain ⟨type, tag, length, payload, covered, whole⟩ := content_split five
  have two : (content.drop (content.length - 2)).length = 2 := by
    rw [List.length_drop]
    omega
  rw [covered] at agrees
  rw [whole, checkFrame_agrees s two agrees, offerRequest_discarded full]

/-! ## The inter-character timer (R163) -/

theorem receiveTimeout_running {s : State} {left : Nat} (timer : s.receiver.timer = some left) :
    receiveTimeout s = countUp .rxTimeout { elapse left s with
      receiver := { state := .hunt, content := [], expected := none, timer := none,
                    breakMark := s.receiver.breakMark } } := by
  rw [receiveTimeout, timer]
  rfl

theorem receiveTimeout_stopped {s : State} (timer : s.receiver.timer = none) : receiveTimeout s = s := by
  rw [receiveTimeout, timer]

/-- Settles O14: the check of a frame by its CRC and the room for it, and the timer running or stopped. -/
theorem discardedFramesAreCounted : Obligations.DiscardedFramesAreCounted := by
  refine ⟨fun type tag length payload crc s two room agrees => ?queued,
    fun content s five => ⟨checkFrame_differs s, checkFrame_full five⟩, fun s u finds => ?timeout⟩
  case queued => rw [checkFrame_agrees s two agrees, offerRequest_queued room]
  case timeout =>
    have taken : exec .interCharacterTimeout s = .next (conclude (receiveTimeout u)) :=
      congrArg Host.Outcome.next (takeEvent_finds _ finds)
    rw [taken]
    exact ⟨fun left timer => by rw [receiveTimeout_running timer], fun timer => by rw [receiveTimeout_stopped timer]⟩

/-! ## The characters of a frame, one after another (R155, R160 to R162) -/

/-- The part after characters have been taken in turn. -/
def afterCharacters (characters : List Byte) (s : State) : State :=
  characters.foldl (fun t b => receiveCharacter (.good b) t) s

theorem afterCharacters_append (first later : List Byte) (s : State) :
    afterCharacters (first ++ later) s = afterCharacters later (afterCharacters first s) := List.foldl_append

/-- The part with a frame being received: the bytes collected and the expected count (R161). -/
def withinFrame (content : List Byte) (expected : Option Nat) (s : State) : State :=
  { s with receiver := collectingReceiver content expected }

/-- The characters of a content byte are collected as that byte, escaped or not (R155, R161, R162). -/
theorem afterCharacters_escapeByte (b : Byte) (content : List Byte) (expected : Option Nat) (s : State) :
    afterCharacters (escapeByte b) (withinFrame content expected s)
      = collectByte b (withinFrame content expected s) := by
  cases reserved : isReserved b with
  | false =>
    have plain : afterCharacters [b] (withinFrame content expected s)
        = takeInFrame (.good b) (withinFrame content expected s) :=
      receiveCharacter_inFrame (s := withinFrame content expected s) rfl rfl (.good b)
    rw [escapeByte_plain reserved, plain, takeInFrame_plain reserved]
  | true =>
    obtain ⟨follows, back⟩ := escape_roundTrip reserved
    obtain ⟨low, high⟩ := (isFollower_iff _).mp follows
    have escaped : afterCharacters [charEscape, b ^^^ 0x20] (withinFrame content expected s)
        = takeEscaped (.good (b ^^^ 0x20))
            { s with receiver := { collectingReceiver content expected with state := .escapePending } } := rfl
    rw [escapeByte_reserved reserved, escaped, takeEscaped_follower low high, back]
    rfl

theorem afterCharacters_content_collects {b : Byte} {content : List Byte} {expected counted : Option Nat}
    (count : counted = if content.length = 2 then some (b.toNat + 5) else expected)
    (more : counted ≠ some (content.length + 1)) (s : State) :
    afterCharacters (escapeByte b) (withinFrame content expected s) = withinFrame (content ++ [b]) counted s := by
  rw [afterCharacters_escapeByte, collectByte_collects (s := withinFrame content expected s) rfl count more]
  rfl

/-- Once the length is known, the rest of the content completes the frame (R161, R164). -/
theorem afterCharacters_rest {content rest : List Byte} {n : Nat} (known : 3 ≤ content.length) (some_left : rest ≠ [])
    (whole : content.length + rest.length = n) (s : State) :
    afterCharacters (rest.flatMap escapeByte) (withinFrame content (some n) s)
      = checkFrame (content ++ rest) { s with receiver := resetReceiver } := by
  induction rest generalizing content with
  | nil => exact absurd rfl some_left
  | cons b later ih =>
    have counted : some n = if content.length = 2 then some (b.toNat + 5) else some n := (if_neg (by omega)).symm
    rw [List.length_cons] at whole
    rw [List.flatMap_cons, afterCharacters_append]
    cases later with
    | nil =>
      have complete : some n = some (content.length + 1) := congrArg some (by simpa using whole.symm)
      rw [afterCharacters_escapeByte,
        collectByte_completes (s := withinFrame content (some n) s) rfl (counted.symm.trans complete)]
      rfl
    | cons c others =>
      have more : some n ≠ some (content.length + 1) := fun same => by
        have same := Option.some.inj same
        rw [List.length_cons] at whole
        omega
      rw [afterCharacters_content_collects counted more,
        ih (content := content ++ [b]) (by rw [List.length_append]; omega) nofun
          (by rw [List.length_append, List.length_singleton]; omega),
        List.append_assoc, List.singleton_append]

/-- The content of a request's frame is the frame that is checked (R156, R161). -/
theorem afterCharacters_contentBytes {type tag : Byte} {payload : List Byte} (short : payload.length ≤ 255) (s : State) :
    afterCharacters ((contentBytes type tag payload).flatMap escapeByte) (withinFrame [] none s)
      = checkFrame (contentBytes type tag payload) { s with receiver := resetReceiver } := by
  have length : (byteOf payload.length).toNat = payload.length := toNat_byteOf (by omega)
  have third : some (payload.length + 5)
      = if ([] ++ [type] ++ [tag]).length = 2 then some ((byteOf payload.length).toNat + 5) else none := by
    rw [length]
    rfl
  have fields : contentBytes type tag payload = type :: tag :: byteOf payload.length ::
      (payload ++ lowFirst 2 (crcOf (coveredBytes type tag payload)).toNat) := rfl
  rw [fields, List.flatMap_cons, List.flatMap_cons, List.flatMap_cons, afterCharacters_append, afterCharacters_append,
    afterCharacters_append, afterCharacters_content_collects (counted := none) rfl nofun,
    afterCharacters_content_collects (counted := none) rfl nofun,
    afterCharacters_content_collects third (fun same => by simp at same)]
  exact afterCharacters_rest (by simp) (by simp [lowFirst_two]) (by simp [lowFirst_two]; omega) s

theorem checkFrame_contentBytes {r : Request} {s : State} (room : s.inbound.length < 4) :
    checkFrame (contentBytes r.type r.tag r.payload) s = { s with inbound := s.inbound ++ [r] } := by
  have agrees : (crcOf (coveredBytes r.type r.tag r.payload)).toNat
      = valueOf (lowFirst 2 (crcOf (coveredBytes r.type r.tag r.payload)).toNat) :=
    (valueOf_lowFirst_of_lt (BitVec.isLt _)).symm
  exact (checkFrame_agrees s rfl agrees).trans (offerRequest_queued room r)

/-- Settles O13: the OPEN begins the frame, its content is collected byte by byte, and its CRC agrees. -/
theorem requestFramesSurviveTheLine : Obligations.RequestFramesSurviveTheLine := by
  intro r s short clear state room
  have opened : receiveCharacter (.good charOpen) s = withinFrame [] none s := by
    rw [receiveCharacter_hunt clear state]
    exact takeInHunt_open clear
  have content := afterCharacters_contentBytes (type := r.type) (tag := r.tag) short s
  rw [lineCharacters, List.foldl_cons, opened]
  exact content.trans (checkFrame_contentBytes (s := { s with receiver := resetReceiver }) room)

end Sys2Proof.Machine
end

section
/-! PROOFS. The resets that waited for an ABORT, and the restart that a break is (R168, R180, R181, R221). -/

namespace Sys2Proof.Machine

/-! ## The end of an ABORT (R180, R181, R221) -/

/-- TX_CHARACTER_BOUNDARY at the stop bit of an ABORT, once the time left of it has passed (log 3). -/
theorem exec_boundary_abortSent {pins : PinLevels} {s u : State} (finds : Finds s u)
    (line : u.transmit.line = some 0xE5) (tail : u.transmit.tail = []) :
    exec (.txCharacterBoundary pins) s = .next (conclude (abortSent pins (elapse u.transmit.lineTime u))) := by
  have taken : exec (.txCharacterBoundary pins) s = .next (conclude (takeBoundary pins u)) :=
    congrArg Host.Outcome.next (takeEvent_finds _ finds)
  have boundary : takeBoundary pins u = abortSent pins (elapse u.transmit.lineTime u) := by
    simp only [takeBoundary, line, characterBoundary, elapse_transmit, tail, charAbort, if_true]
  rw [taken, boundary]

section

variable {s : State}

theorem abortSent_restart (awaited : s.resetting.awaited = some .restart) (pins : PinLevels) :
    abortSent pins s = endReset .request pins s := by rw [abortSent, awaited]

theorem abortSent_pinLow (awaited : s.resetting.awaited = some .pin) (low : s.resetting.pinLow = true)
    (pins : PinLevels) : abortSent pins s = enterReset s := by
  rw [abortSent, awaited]
  exact if_pos low

theorem abortSent_pinRisen (awaited : s.resetting.awaited = some .pin) (risen : s.resetting.pinLow = false)
    (pins : PinLevels) : abortSent pins s = endReset .pin pins s := by
  rw [abortSent, awaited]
  exact if_neg (by rw [risen]; exact Bool.false_ne_true)

end

/-- Nothing follows the event in which the blocks enter reset (R221). -/
theorem conclude_enterReset (s : State) : conclude (enterReset s) = heldInReset s := by
  have nothing : chooseFrame (enterReset s) = enterReset s := rfl
  rw [conclude_decides rfl rfl, decideIdle_idle _ rfl rfl, nothing]
  rfl

/-! ## A restart without an ABORT (R168) -/

/-- A link reset that discards the reply to a Restart, with no ABORT to be sent, is the restart. -/
theorem linkReset_restarts {s : State} (discards : discardsRestart s = true) (nothing_sent : inTransmission s = false)
    (no_abort : aborting s = false) (pins : PinLevels) :
    linkReset pins s = endReset .request pins { afterLinkReset s with resetting := s.resetting } := by
  have tail : (afterLinkReset s).transmit.tail = s.transmit.tail :=
    if_neg (by rw [nothing_sent, Bool.false_and]; exact Bool.false_ne_true)
  have quiet : aborting { afterLinkReset s with resetting := s.resetting } = false := by
    rw [← no_abort, aborting, tail]
    rfl
  rw [linkReset, announceLink_eq, if_pos discards, restartAfterBreak, quiet]
  exact if_neg Bool.false_ne_true

/-- Settles O7: the awaited reset by its kind and by RESET's level, and the break that is the restart at once. -/
theorem awaitedResetsFollowTheirAbort : Obligations.AwaitedResetsFollowTheirAbort := by
  refine ⟨fun pins s u finds line tail => ?aborted, ?broken⟩
  case aborted =>
    rw [exec_boundary_abortSent finds line tail]
    refine ⟨fun awaited => ?_, fun awaited low => ?_, fun awaited risen => ?_⟩
    · rw [abortSent_restart (s := elapse u.transmit.lineTime u) awaited, conclude_endReset]
      rfl
    · rw [abortSent_pinLow (s := elapse u.transmit.lineTime u) awaited low, conclude_enterReset]
      rfl
    · rw [abortSent_pinRisen (s := elapse u.transmit.lineTime u) awaited risen, conclude_endReset]
      rfl
  case broken =>
    rintro pins s u _ finds clear rfl discards nothing_sent no_abort
    rw [exec_lineBreak finds, takeBreak_alone clear, linkReset_restarts discards nothing_sent no_abort, conclude_endReset]
    rfl

end Sys2Proof.Machine
end

section
/-! PROOFS. The requests that report the values standing (R190, R193, R201, R206). -/

namespace Sys2Proof.Machine

section

variable {r : Request} {s u : State}

/-! ## Get Status (R190) -/

theorem recordPageTotal_eq (s : State) :
    recordPageTotal s = (s.records.map fun x => (x.parts.map fun p => p.run.pages.length).sum).sum := by
  simp only [recordPageTotal, recordPages, List.length_flatMap]

/-- The pages of the free list, of the rings and of the records are all the owned ones (R1). -/
theorem ownedPages_length (s : State) :
    (ownedPages s).length = s.free.length + ringPageTotal s + recordPageTotal s := by
  simp only [ownedPages, runPages, ringPageTotal, recordPageTotal, recordPages, List.length_append, List.length_map,
    List.flatMap_map, List.flatMap_assoc, List.length_flatMap]

theorem pageCounts_add_up (conserved : PagesConserved s) :
    s.free.length + ringPageTotal s + recordPageTotal s = 192 := by
  rw [← ownedPages_length, conserved.length_eq, List.length_range]
  rfl

theorem runGetStatus_eq (payload : r.payload = []) (s : State) : runGetStatus none r s = replied r (statusData s) s := by
  rw [runGetStatus, payload]
  exact answer_quiet rfl rfl

/-! ## Read Counters and List Records (R193, R206) -/

theorem runReadCounters_standing (payload : r.payload = [0]) (s : State) :
    runReadCounters none r s = replied r (countersData s) s := by
  rw [runReadCounters, payload]
  exact answer_quiet (a := 0) rfl rfl

theorem runListRecords_eq (payload : r.payload = []) (s : State) : runListRecords none r s = replied r (listData s) s := by
  rw [runListRecords, payload]
  exact answer_quiet rfl rfl

/-! ## Read Configuration (R201) -/

theorem readReadConfiguration_ok {item number : Byte} (kind : item.toNat < 7) (inside : number.toNat < itemNumbers item) :
    readReadConfiguration [item, number] = .ok (readItem item number) := by
  refine checkFields_ok ?_ _
  rw [below, below, decide_eq_true kind, decide_eq_true inside]
  simp

/-- An item of a table is named by its number (R201). -/
theorem readReadConfiguration_numbered {n : Nat} [NeZero n] {item : Byte} {kind : Fin n → ConfigurationItem}
    (code : item.toNat < 7) (numbers : itemNumbers item = n) (small : n ≤ 256)
    (named : ∀ number : Byte, readItem item number = kind (Fin.ofNat n number.toNat)) (k : Fin n) :
    readReadConfiguration [item, byteOf k.val] = .ok (kind k) := by
  have inside : (byteOf k.val).toNat < itemNumbers item := by
    rw [toNat_byteOf (Nat.lt_of_lt_of_le k.isLt small), numbers]
    exact k.isLt
  rw [readReadConfiguration_ok code inside, named, ofNat_byteOf small]

/-- The item that is named is echoed before its values, and nothing changes (R201). -/
theorem exec_readConfiguration {item number : Byte} {data : List Byte} {named : ConfigurationItem}
    (finds : FindsRequest r s u) (type : r.type = 0x17) (payload : r.payload = [item, number])
    (read : readReadConfiguration [item, number] = .ok named)
    (standing : configurationData named u = item :: number :: data) :
    exec .readConfiguration s = .next (conclude (replied r (item :: number :: data) u)) := by
  have run : exec .readConfiguration s = .next (conclude (runReadConfiguration none r u)) := carriedOut finds type
  rw [run, runReadConfiguration, payload, ← standing]
  exact congrArg (fun t => Host.Outcome.next (conclude t)) (answer_quiet read rfl)

end

/-! ## The bytes of the items (R194 to R201) -/

theorem streamBytes_eq (x : StreamSettings) :
    streamBytes x = [if x.enabled then 0x01 else 0x00,
      match x.filter with | .bypass => 0xFF | .coefficients set => byteOf set.val,
      byteOf x.decimation, byteOf x.history, match x.format with | .full => 0x00 | .packed => 0x01] := by
  rw [streamBytes]
  cases x.filter <;> rfl

theorem externalBytes_eq (d : ExternalDefinition) :
    externalBytes d = [flagByte d.enabled, edgeByte d.edge, optionalProfileByte d.profile, flagByte d.alarm,
      byteOf d.holdoff, byteOf (d.holdoff / 256), byteOf (d.holdoff / 256 ^ 2), byteOf (d.holdoff / 256 ^ 3)] := by
  rw [externalBytes, lowFirst_four]
  rfl

theorem settingsBytes_eq (x : AcquisitionSettings) :
    settingsBytes x = [roundSourceByte x.source, byteOf x.period, byteOf (x.period / 256), byteOf (x.period / 256 ^ 2),
      byteOf (x.period / 256 ^ 3), policyByte x.policy] := by
  rw [settingsBytes, lowFirst_four]
  rfl

/-- Settles O41: each report is the values standing, each item is named by its code and number, and its bytes are spelled
field by field. -/
theorem reportsGiveTheValuesStanding : Obligations.ReportsGiveTheValuesStanding := by
  refine ⟨?status, fun u r rest => takeRequest_takes, fun r s u finds type payload => ?counters,
    fun r s u finds type payload => ?records, fun r s u item number data finds type payload which => ?configuration, ?bytes⟩
  case status =>
    rintro r s u ring record finds type payload ringTotal recordTotal
    obtain rfl : ring = ringPageTotal u := ringTotal
    obtain rfl : record = recordPageTotal u := recordTotal.trans (recordPageTotal_eq u).symm
    have run : exec .getStatus s = .next (conclude (runGetStatus none r u)) := carriedOut finds type
    refine ⟨?_, pageCounts_add_up, fun bounded => ?_⟩
    · rw [run, runGetStatus_eq payload]
      rfl
    · obtain ⟨-, -, -, -, behind⟩ := bounded
      exact Nat.le_of_lt_succ behind
  case counters =>
    have run : exec .readCounters s = .next (conclude (runReadCounters none r u)) :=
      congrArg Host.Outcome.next (carryOut_finds r _ _ finds (by rw [isReadCounters, ofType, type, payload]; rfl))
    rw [run, runReadCounters_standing payload, countersData_eq]
  case records =>
    have run : exec .listRecords s = .next (conclude (runListRecords none r u)) := carriedOut finds type
    rw [run, runListRecords_eq payload]
    rfl
  case configuration =>
    obtain ⟨rfl, rfl, rfl⟩ | ⟨k, rfl, rfl, rfl⟩ | ⟨set, rfl, rfl, rfl⟩ | ⟨p, rfl, rfl, rfl⟩ | ⟨w, rfl, rfl, rfl⟩
      | ⟨rfl, rfl, rfl⟩ | ⟨rfl, rfl, rfl⟩ := which
    · exact exec_readConfiguration (named := .scan) finds type payload rfl rfl
    · exact exec_readConfiguration finds type payload
        (readReadConfiguration_numbered (kind := .stream) (by decide) rfl (by decide) (fun _ => rfl) k) rfl
    · exact exec_readConfiguration finds type payload
        (readReadConfiguration_numbered (kind := .coefficientSet) (by decide) rfl (by decide) (fun _ => rfl) set) rfl
    · exact exec_readConfiguration finds type payload
        (readReadConfiguration_numbered (kind := .profile) (by decide) rfl (by decide) (fun _ => rfl) p) rfl
    · refine exec_readConfiguration finds type payload
        (readReadConfiguration_numbered (kind := .watch) (by decide) rfl (by decide) (fun _ => rfl) w) ?_
      rw [configurationData, reportedCount]
      cases u.watches[w].state <;> rfl
    · exact exec_readConfiguration (named := .externalTrigger) finds type payload rfl rfl
    · exact exec_readConfiguration (named := .acquisition) finds type payload rfl rfl
  case bytes =>
    exact ⟨lowFirst_two, fun _ => rfl, streamBytes_eq, fun _ => rfl, fun _ => rfl, fun _ => rfl, externalBytes_eq,
      settingsBytes_eq, rfl, rfl, fun _ => rfl⟩

end Sys2Proof.Machine
end

section
/-! PROOFS. The outbound classes: the choice of the next frame, the nesting of preempted frames, the boundaries inside a
frame, and the pin reset that waits for an ABORT (R170 to R181, R221). -/

namespace Sys2Proof.Machine

/-! ## Ranks (R170, R175, R176) -/

theorem classRank_lt_urgent {c : FrameClass} : classRank c < classRank .urgent ↔ c ≠ .urgent := by
  cases c <;> decide

theorem classRank_lt_normal {c : FrameClass} : classRank c < classRank .normal ↔ c = .bulk := by
  cases c <;> decide

/-- A class outranks the stack when it outranks the frame on top of it, if there is one (R176). -/
theorem outranksStack_iff {c : FrameClass} {s : State} :
    outranksStack c s = true ↔ ∀ t ∈ s.transmit.suspended.head?, classRank (frameClass t.frame) < classRank c := by
  unfold outranksStack
  split <;> simp [*]

/-- A higher class is pending: URGENT above NORMAL, either above BULK (R175). -/
theorem higherPending_iff {c : FrameClass} {s : State} :
    higherPending c s = true ↔ (c = .normal ∧ s.transmit.urgent ≠ [])
      ∨ (c = .bulk ∧ (s.transmit.urgent ≠ [] ∨ s.transmit.normal ≠ [])) := by
  cases c <;> simp [higherPending]

/-! ## The choice by class (R171 to R173, R176) -/

section

variable {s : State}

theorem chooseFrame_urgent_outranks {f : Frame} {rest : List Frame} (urgent : s.transmit.urgent = f :: rest)
    (outranks : outranksStack .urgent s = true) :
    chooseFrame s = startFrame f { s with transmit := { s.transmit with urgent := rest } } := by
  simp only [chooseFrame, urgent, outranks, if_true]

theorem chooseFrame_normal_outranks {f : Frame} {rest : List Frame} (urgent : s.transmit.urgent = [])
    (normal : s.transmit.normal = f :: rest) (outranks : outranksStack .normal s = true) :
    chooseFrame s = startFrame f { s with transmit := { s.transmit with normal := rest } } := by
  simp only [chooseFrame, urgent, normal, outranks, if_true]

/-- With no URGENT frame and no NORMAL one above the stack, the unit is left to what is suspended, or to a chunk. -/
theorem chooseFrame_lower (urgent : s.transmit.urgent = [])
    (normal : s.transmit.normal = [] ∨ outranksStack .normal s = false) : chooseFrame s = startLower s := by
  cases queue : s.transmit.normal with
  | nil => simp only [chooseFrame, urgent, queue]
  | cons f rest =>
    have stays : outranksStack .normal s = false := normal.resolve_left (by rw [queue]; nofun)
    simp only [chooseFrame, urgent, queue, stays, Bool.false_eq_true, if_false]

theorem startLower_resumes {t : Transmission} {rest : List Transmission} (stack : s.transmit.suspended = t :: rest) :
    startLower s = resumeTop t rest s := by
  simp only [startLower, stack]

/-- A readout that is not ACTIVE has no chunk to build (R63). -/
theorem startChunk_inactive (inactive : s.readout.state ≠ .active) : startChunk s = idleLine s := by
  have none_built : buildChunk s = none := by
    unfold buildChunk
    split
    · next active _ => exact absurd active inactive
    · rfl
  rw [startChunk, none_built]
  split <;> rfl

end

/-- Settles O21: each class in its turn is held against the top of the stack. -/
theorem choiceFollowsTheClasses : Obligations.ChoiceFollowsTheClasses := by
  refine fun s => ⟨fun f rest urgent top => ?urgent, fun f rest urgent normal top => ?normal,
    fun t rest stack urgent normal => ?resume, fun stack urgent normal inactive => ?idle⟩
  case urgent =>
    rw [chooseFrame_urgent_outranks urgent (outranksStack_iff.mpr fun t ht => classRank_lt_urgent.mpr (top t ht))]
    rfl
  case normal =>
    rw [chooseFrame_normal_outranks urgent normal (outranksStack_iff.mpr fun t ht => classRank_lt_normal.mpr (top t ht))]
    rfl
  case resume =>
    have stays : s.transmit.normal = [] ∨ outranksStack .normal s = false :=
      normal.imp_right fun top => by simpa [outranksStack, stack] using mt classRank_lt_normal.mp top
    rw [chooseFrame_lower urgent stays, startLower_resumes stack]
    rfl
  case idle =>
    rw [chooseFrame_lowest stack urgent normal, startChunk_inactive inactive]
    rfl

end Sys2Proof.Machine
end

section
namespace Sys2Proof.Machine

/-! ## What the nesting rests on (R170, R174) -/

/-- Frames that leave, from a queue or from transmission, leave the rest nested. -/
theorem nestingLegal_of_sublist {s t : State}
    (ranks : (stackRanks (inTransmissionOrder t)).Sublist (stackRanks (inTransmissionOrder s)))
    (depth : t.transmit.suspended.length ≤ s.transmit.suspended.length) (urgent : t.transmit.urgent ⊆ s.transmit.urgent)
    (normal : t.transmit.normal ⊆ s.transmit.normal) (h : NestingLegal s) : NestingLegal t := by
  obtain ⟨nested, shallow, urgentClass, normalClass⟩ := h
  exact ⟨nested.sublist ranks, depth.trans shallow, fun f hf => urgentClass f (urgent hf),
    fun f hf => normalClass f (normal hf)⟩

/-- The nesting rests on the Transmit Unit alone. -/
theorem nestingLegal_of_transmit {s t : State} (same : t.transmit = s.transmit) (h : NestingLegal s) : NestingLegal t := by
  rw [NestingLegal, inTransmissionOrder, same]
  exact h

theorem stackRanks_inTransmissionOrder (s : State) :
    stackRanks (inTransmissionOrder s) = stackRanks s.transmit.sending.toList ++ stackRanks s.transmit.suspended :=
  List.map_append

/-- A class above the top of a nested stack is above every frame of it. -/
theorem rank_lt_of_outranksStack {c : FrameClass} {s : State} (nested : (stackRanks s.transmit.suspended).Pairwise (· > ·))
    (outranks : outranksStack c s = true) : ∀ rank ∈ stackRanks s.transmit.suspended, rank < classRank c := by
  rw [outranksStack_iff] at outranks
  cases stack : s.transmit.suspended with
  | nil => exact nofun
  | cons t rest =>
    rw [stack] at nested outranks
    have top : classRank (frameClass t.frame) < classRank c := outranks t rfl
    intro rank member
    obtain rfl | deeper := List.mem_cons.mp member
    · exact top
    · exact (List.rel_of_pairwise_cons nested deeper).trans top

/-- A strictly falling list holds at most as many numbers below its first as that one's value. -/
theorem length_le_of_falling {a : Nat} {l : List Nat} (falling : (a :: l).Pairwise (· > ·)) : l.length ≤ a := by
  induction l generalizing a with
  | nil => exact Nat.zero_le a
  | cons b rest ih =>
    have below : b < a := List.rel_of_pairwise_cons falling List.mem_cons_self
    exact (ih falling.of_cons).trans_lt below

/-! ## Frames that begin, resume and are suspended (R173 to R176) -/

/-- A frame begun above the stack takes the place of the one being sent, if any. -/
theorem nestingLegal_startFrame {f : Frame} {s : State} (h : NestingLegal s)
    (outranks : outranksStack (frameClass f) s = true) : NestingLegal (startFrame f s) := by
  obtain ⟨nested, others⟩ := h
  rw [stackRanks_inTransmissionOrder] at nested
  have stack : (stackRanks s.transmit.suspended).Pairwise (· > ·) := nested.sublist (List.sublist_append_right _ _)
  exact ⟨List.pairwise_cons.mpr ⟨rank_lt_of_outranksStack stack outranks, stack⟩, others⟩

theorem nestingLegal_startLower {s : State} (h : NestingLegal s) : NestingLegal (startLower s) := by
  unfold startLower
  split
  · next t rest stack =>
    have left : (stackRanks (inTransmissionOrder (resumeTop t rest s))).Sublist (stackRanks (inTransmissionOrder s)) := by
      rw [stackRanks_inTransmissionOrder s, stack]
      exact List.sublist_append_right _ _
    exact nestingLegal_of_sublist left (by rw [stack]; exact Nat.le_succ _) (.refl _) (.refl _) h
  · next stack =>
    obtain ⟨chunk, readout, -, -, begun⟩ | idled := startChunk_cases s
    · rw [begun]
      exact nestingLegal_startFrame (s := { s with
        readout := readout, transmit := { s.transmit with bulk := some chunk } }) h (by simp only [outranksStack, stack])
    · rw [idled]
      exact h

/-- The choice begins a frame only above the stack (R171, R173, R176). -/
theorem nestingLegal_chooseFrame {s : State} (h : NestingLegal s) : NestingLegal (chooseFrame s) := by
  have ⟨_, _, urgentClass, normalClass⟩ := h
  unfold chooseFrame
  split
  · next f rest urgent =>
    split
    · next outranks =>
      have left : NestingLegal { s with transmit := { s.transmit with urgent := rest } } :=
        nestingLegal_of_sublist (s := s) (.refl _) le_rfl (by simp only [urgent, List.subset_cons_self]) (.refl _) h
      have urgentFrame : frameClass f = .urgent := urgentClass f (by rw [urgent]; exact List.mem_cons_self)
      exact nestingLegal_startFrame left (by rw [urgentFrame]; exact outranks)
    · exact nestingLegal_startLower h
  · next f rest _ normal =>
    split
    · next outranks =>
      have left : NestingLegal { s with transmit := { s.transmit with normal := rest } } :=
        nestingLegal_of_sublist (s := s) (.refl _) le_rfl (.refl _) (by simp only [normal, List.subset_cons_self]) h
      have normalFrame : frameClass f = .normal := normalClass f (by rw [normal]; exact List.mem_cons_self)
      exact nestingLegal_startFrame left (by rw [normalFrame]; exact outranks)
    · exact nestingLegal_startLower h
  · exact nestingLegal_startLower h

/-- What is suspended is no URGENT frame, so that at most one frame lies beneath it (R175). -/
theorem nestingLegal_suspendFrame {t : Transmission} {s : State} (h : NestingLegal s)
    (sending : s.transmit.sending = some t) (higher : higherPending (frameClass t.frame) s = true) :
    NestingLegal (suspendFrame t s) := by
  obtain ⟨nested, -, queues⟩ := h
  rw [stackRanks_inTransmissionOrder, sending] at nested
  have beneath : (stackRanks s.transmit.suspended).length ≤ classRank (frameClass t.frame) := length_le_of_falling nested
  have low : classRank (frameClass t.frame) ≤ 1 := by
    obtain ⟨normal, -⟩ | ⟨bulk, -⟩ := higherPending_iff.mp higher
    · rw [normal]; exact le_rfl
    · rw [bulk]; exact Nat.zero_le 1
  rw [stackRanks, List.length_map] at beneath
  exact ⟨nested, Nat.succ_le_succ (beneath.trans low), queues⟩

/-! ## Frames that join a queue (R170) -/

theorem nestingLegal_normal_joined {f : Frame} {s : State} (h : NestingLegal s) (class_normal : frameClass f = .normal) :
    NestingLegal { s with transmit := { s.transmit with normal := s.transmit.normal ++ [f] } } := by
  obtain ⟨nested, shallow, urgentClass, normalClass⟩ := h
  refine ⟨nested, shallow, urgentClass, fun g hg => ?_⟩
  obtain old | new := List.mem_append.mp hg
  · exact normalClass g old
  · rw [List.mem_singleton.mp new, class_normal]

theorem nestingLegal_urgent_joined {f : Frame} {s : State} (h : NestingLegal s) (class_urgent : frameClass f = .urgent) :
    NestingLegal { s with transmit := { s.transmit with urgent := s.transmit.urgent ++ [f] } } := by
  obtain ⟨nested, shallow, urgentClass, normalClass⟩ := h
  refine ⟨nested, shallow, fun g hg => ?_, normalClass⟩
  obtain old | new := List.mem_append.mp hg
  · exact urgentClass g old
  · rw [List.mem_singleton.mp new, class_urgent]

theorem frameClass_noticeFrame (n : Notice) : frameClass (noticeFrame n) = .normal := by
  cases n <;> rfl

/-! ## Every turn -/

theorem nestingLegal_depleted {tr : TransmitUnit} {s : State} (depleted : Depleted s.transmit tr) (h : NestingLegal s) :
    NestingLegal { s with transmit := tr } := by
  have fewer : tr.suspended.length ≤ s.transmit.suspended.length := by
    simpa only [stackRanks, List.length_map] using depleted.suspended.length_le
  refine nestingLegal_of_sublist ?_ fewer depleted.urgent.subset depleted.normal.subset h
  rw [stackRanks_inTransmissionOrder, stackRanks_inTransmissionOrder]
  exact depleted.sending.append depleted.suspended

theorem change_nestingLegal {s t : State} (h : Change s t) (hs : NestingLegal s) : NestingLegal t := by
  cases h with
  | untracked same => exact nestingLegal_of_transmit (congrArg TrackedView.transmit same) hs
  | noticeQueued n => exact nestingLegal_normal_joined hs (frameClass_noticeFrame n)
  | alarmMoved =>
    obtain e | ⟨e, -, -, moved⟩ := moveOldestPending_cases s
    · rw [e]; exact hs
    · rw [moved]
      exact nestingLegal_urgent_joined (f := alarmReportFrame e s.dropCount) hs rfl
  | frameChosen => exact nestingLegal_chooseFrame hs
  | frameSuspended t _ sending higher => exact nestingLegal_suspendFrame hs sending higher
  | transmitted tr _ depleted => exact nestingLegal_depleted depleted hs
  | recordOpened t => rw [openRecordFor_eq]; exact hs
  | recordReplaced t r => rw [openRecordFor_eq]; exact hs
  | holdoffEnded w => unfold endHoldoff; split <;> exact hs
  | externalFired =>
    obtain ⟨_, _, sent⟩ := sendFiring_shape s.external.definition.profile s.external.definition.alarm .external
      s.clock.timebase none s
    rw [fireExternal, sent]
    exact hs
  | alarmListed r _ room => rw [takeAlarmRequest, if_pos room]; exact hs
  | requestTaken =>
    unfold takeRequest
    split
    · split <;> exact hs
    · exact hs
  | _ => exact hs

theorem turn_nestingLegal (s t : State) (h : Turn s t) (hs : NestingLegal s) : NestingLegal t := by
  cases h with
  | change h => exact change_nestingLegal h hs
  | replied f d r _ _ class_normal => exact nestingLegal_normal_joined hs class_normal
  | reset rate fresh =>
    exact nestingLegal_of_transmit (s := { State.reset with transmit := resetTransmit rate })
      (congrArg TrackedView.transmit fresh) nestingLegal_reset

/-- Settles O59: a frame is begun only above the stack, and only one that a higher class can preempt is suspended. -/
theorem preemptionStaysNested : Obligations.PreemptionStaysNested :=
  fun _ _ hs stepped => step_keeps_of_turn turn_nestingLegal stepped hs

end Sys2Proof.Machine
end

section
namespace Sys2Proof.Machine

/-! ## Boundaries that end no frame (R173, R175, R179, R180) -/

theorem exec_boundary {s u : State} (finds : Finds s u) (pins : PinLevels) :
    exec (.txCharacterBoundary pins) s = .next (conclude (takeBoundary pins u)) :=
  congrArg Host.Outcome.next (takeEvent_finds _ finds)

/-- TX_CHARACTER_BOUNDARY on a line that sends, once the time left of the character has passed (log 3). -/
theorem exec_boundary_sending {pins : PinLevels} {s u : State} {just : Byte} (finds : Finds s u)
    (line : u.transmit.line = some just) :
    exec (.txCharacterBoundary pins) s
      = .next (conclude (characterBoundary just pins (elapse u.transmit.lineTime u))) := by
  rw [exec_boundary finds, takeBoundary, line]

/-- An idle line has no boundary (log 4). -/
theorem exec_boundary_idle {pins : PinLevels} {s u : State} (finds : Finds s u) (line : u.transmit.line = none) :
    exec (.txCharacterBoundary pins) s = .next (conclude u) := by
  rw [exec_boundary finds, takeBoundary, line]

section

variable {pins : PinLevels} {just : Byte} {s : State}

/-- An abort goes on with what it still has to send (R179). -/
theorem characterBoundary_aborting {c : Byte} {rest : List Byte} (tail : s.transmit.tail = c :: rest) :
    characterBoundary just pins s
      = sendCharacter c { s with transmit := { s.transmit with tail := rest } } := by
  rw [characterBoundary, tail]

theorem characterBoundary_inFrame {f : Frame} {next : Byte} {rest : List Byte} (no_abort : just ≠ 0xE5)
    (tail : s.transmit.tail = []) (sending : s.transmit.sending = some { frame := f, unsent := next :: rest }) :
    characterBoundary just pins s = continueFrame just { frame := f, unsent := next :: rest } next rest s := by
  simp only [characterBoundary, tail, sending, charAbort, if_neg no_abort]

/-- After a SUSPEND, and after an ABORT that no reset awaits, the unit chooses (R173, R180). -/
theorem characterBoundary_chooses (tail : s.transmit.tail = [])
    (between : (just ≠ 0xE5 ∧ s.transmit.sending = none) ∨ (just = 0xE5 ∧ s.resetting.awaited = none)) :
    characterBoundary just pins s = chooseFrame s := by
  obtain ⟨no_abort, sending⟩ | ⟨abort, awaited⟩ := between
  · simp only [characterBoundary, tail, sending, charAbort, if_neg no_abort]
  · simp only [characterBoundary, tail, charAbort, if_pos abort, abortSent, awaited]

/-- SUSPEND goes when a higher class is pending, but never between an ESCAPE and its follower (R175). -/
theorem continueFrame_suspends {t : Transmission} {next : Byte} {rest : List Byte}
    (preempted : just ≠ 0xE4 ∧ higherPending (frameClass t.frame) s = true) :
    continueFrame just t next rest s = suspendFrame t s := by
  refine if_pos ?_
  simpa [charEscape] using preempted

theorem continueFrame_continues {t : Transmission} {next : Byte} {rest : List Byte}
    (goes_on : ¬ (just ≠ 0xE4 ∧ higherPending (frameClass t.frame) s = true)) :
    continueFrame just t next rest s
      = sendCharacter next { s with transmit := { s.transmit with sending := some { t with unsent := rest } } } := by
  refine if_neg fun preempted => goes_on ?_
  simpa [charEscape] using preempted

end

/-- Settles O19: the boundary by what the unit is about: a frame, an abort, or neither. -/
theorem boundaryContinuesOrSuspends : Obligations.BoundaryContinuesOrSuspends := by
  refine fun pins s u finds => ⟨?frame, ?abort, ?choice, exec_boundary_idle finds⟩
  case frame =>
    rintro just next rest f _ rfl line no_abort tail sending
    have higher := higherPending_iff (c := frameClass f) (s := elapse u.transmit.lineTime u)
    rw [exec_boundary_sending finds line,
      characterBoundary_inFrame (s := elapse u.transmit.lineTime u) no_abort tail sending]
    refine ⟨fun preempted => ?_, fun goes_on => ?_⟩
    · rw [continueFrame_suspends (preempted.imp_right higher.mpr)]
      rfl
    · rw [continueFrame_continues fun preempted => goes_on (preempted.imp_right higher.mp)]
      rfl
  case abort =>
    rintro just c rest _ rfl line tail
    rw [exec_boundary_sending finds line, characterBoundary_aborting (s := elapse u.transmit.lineTime u) tail]
    rfl
  case choice =>
    rintro just _ rfl line tail between
    rw [exec_boundary_sending finds line,
      characterBoundary_chooses (s := elapse u.transmit.lineTime u) tail between]

/-! ## The pin reset (R179, R181, R221) -/

theorem exec_pinReset {s u : State} (finds : Finds s u) : exec .pinReset s = .next (conclude (takePinReset u)) :=
  congrArg Host.Outcome.next (takeEvent_finds _ finds)

/-- The follower of an ESCAPE goes before ABORT (R179). -/
theorem abortTail_eq (s : State) :
    abortTail s = (if s.transmit.line = some 0xE4 then ((s.transmit.sending.map fun t => t.unsent.take 1).getD [])
      else []) ++ [0xE5] := by
  unfold abortTail charEscape
  split <;> rfl

/-- Settles O6: RESET's fall by what is in transmission, and its rise by whether the blocks are held. -/
theorem pinResetHoldsThePartUntilResetRises : Obligations.PinResetHoldsThePartUntilResetRises := by
  refine ⟨fun s u finds => ⟨fun silent => ?holds, fun sends calm => ?aborts, fun sends aborts => ?waits⟩,
    fun pins s held => ?ends, fun pins s u finds => ?rises⟩
  case holds =>
    rw [exec_pinReset finds, takePinReset, if_neg (by rw [silent]; exact Bool.false_ne_true), conclude_enterReset]
  case aborts =>
    rw [exec_pinReset finds, takePinReset, if_pos sends, tellAbort, if_neg (by rw [calm]; exact Bool.false_ne_true),
      abortTail_eq]
  case waits =>
    rw [exec_pinReset finds, takePinReset, if_pos sends, tellAbort, if_pos aborts]
  case ends =>
    have ended : exec (.pinResetEnd pins) s = .next (conclude (endReset .pin pins s)) := if_pos held
    rw [ended, conclude_endReset]
  case rises =>
    have live : s.resetting.held = false := finds.1
    have taken : exec (.pinResetEnd pins) s = .next (takeEvent raiseResetPin s) :=
      if_neg (by rw [live]; exact Bool.false_ne_true)
    rw [taken, takeEvent_finds _ finds]
    rfl

end Sys2Proof.Machine
end

section
/-! PROOFS. The form of a request: its type, its length and the ranges of its fields, checked before anything
else (R185, R186); a request row with no request in execution (log 11); Identify and Convert Once (R189, R204). -/

namespace Sys2Proof.Machine

/-! ## Stage 2: the length (R185, R186) -/

/-- A reader that accepts one length of payload refuses every other with the length it requires (R186). -/
def RequiresLength {α : Type} (required : Byte) (read : List Byte → Verdict α) : Prop :=
  ∀ payload, payload.length ≠ required.toNat → read payload = refuse .badLength required

theorem requiresLength_of {α : Type} {required : Byte} {read : List Byte → Verdict α}
    (h : ∀ payload, read payload = badLength required ∨ payload.length = required.toNat) :
    RequiresLength required read :=
  fun payload wrong => (h payload).resolve_right wrong

theorem readNothing_length : RequiresLength 0 readNothing :=
  requiresLength_of fun payload => by unfold readNothing; split; exacts [.inr rfl, .inl rfl]

theorem readByte_length (bound : Nat) : RequiresLength 1 (readByte bound) :=
  requiresLength_of fun payload => by unfold readByte; split; exacts [.inr rfl, .inl rfl]

theorem readRecordNumber_length : RequiresLength 2 readRecordNumber :=
  requiresLength_of fun payload => by unfold readRecordNumber; split; exacts [.inr rfl, .inl rfl]

theorem readReadConfiguration_length : RequiresLength 2 readReadConfiguration :=
  requiresLength_of fun payload => by unfold readReadConfiguration; split; exacts [.inr rfl, .inl rfl]

theorem readReadRecord_length : RequiresLength 4 readReadRecord :=
  requiresLength_of fun payload => by unfold readReadRecord; split; exacts [.inr rfl, .inl rfl]

theorem readSetTime_length : RequiresLength 6 readSetTime :=
  requiresLength_of fun payload => by unfold readSetTime; split; exacts [.inr rfl, .inl rfl]

theorem readConfigureStream_length : RequiresLength 6 readConfigureStream :=
  requiresLength_of fun payload => by unfold readConfigureStream; split; exacts [.inr rfl, .inl rfl]

theorem readConfigureAcquisition_length : RequiresLength 6 readConfigureAcquisition :=
  requiresLength_of fun payload => by unfold readConfigureAcquisition; split; exacts [.inr rfl, .inl rfl]

theorem readConfigureProfile_length : RequiresLength 8 readConfigureProfile :=
  requiresLength_of fun payload => by unfold readConfigureProfile; split; exacts [.inr rfl, .inl rfl]

theorem readConfigureExternal_length : RequiresLength 8 readConfigureExternal :=
  requiresLength_of fun payload => by unfold readConfigureExternal; split; exacts [.inr rfl, .inl rfl]

theorem readConfigureWatch_length : RequiresLength 16 readConfigureWatch :=
  requiresLength_of fun payload => by unfold readConfigureWatch; split; exacts [.inr rfl, .inl rfl]

/-- Configure Scan counts its slots in its first byte (R194). -/
theorem readConfigureScan_length {payload : List Byte}
    (wrong : ∀ n, payload.head? = some n → payload.length ≠ 1 + 4 * n.toNat) :
    readConfigureScan payload = refuse .badLength 0xFF := by
  unfold readConfigureScan
  split
  · rfl
  · next n slots =>
    have counted : slots.length ≠ 4 * n.toNat := fun whole =>
      wrong n rfl (by rw [List.length_cons, whole, Nat.add_comm])
    exact if_neg counted

/-- Load Coefficients counts its taps in its second byte (R196). -/
theorem readLoadCoefficients_length {payload : List Byte}
    (wrong : ∀ n, payload[1]? = some n → payload.length ≠ 3 + 2 * n.toNat) :
    readLoadCoefficients payload = refuse .badLength 0xFF := by
  unfold readLoadCoefficients
  split
  · next set taps shift rest =>
    have counted : rest.length ≠ 2 * taps.toNat := fun whole =>
      wrong taps rfl (by simp only [List.length_cons, whole]; omega)
    exact if_neg counted
  · rfl

/-! ## Stage 3: the first field out of range (R185, R186) -/

/-- The index that a check of fields is refused with, `last` when every field is in its range. -/
def refusedIndex (last : Byte) (index : Nat) (inRange : List Bool) : Byte :=
  ((firstOutOfRange index inRange).map byteOf).getD last

theorem refusedIndex_nil (last : Byte) (index : Nat) : refusedIndex last index [] = last := rfl

theorem refusedIndex_cons (last : Byte) (index : Nat) (b : Bool) (rest : List Bool) :
    refusedIndex last index (b :: rest) = if b = false then byteOf index else refusedIndex last (index + 1) rest := by
  cases b <;> rfl

/-- The first field out of range is refused, and with none the check that follows is. -/
theorem checkFields_bind_refused {α β : Type} {inRange : List Bool} {value : α} {next : α → Verdict β}
    {index last : Byte} (first : index = refusedIndex last 1 inRange) (nonzero : index ≠ 0)
    (later : last ≠ 0 → next value = refuse .badParam last) :
    (checkFields inRange value).bind next = refuse .badParam index := by
  subst first
  unfold refusedIndex at *
  unfold checkFields
  cases failing : firstOutOfRange 1 inRange with
  | some j => rfl
  | none =>
    rw [failing] at nonzero
    exact later nonzero

theorem checkFields_refused {α : Type} {inRange : List Bool} {value : α} {index : Byte}
    (first : index = refusedIndex 0 1 inRange) (nonzero : index ≠ 0) :
    checkFields inRange value = refuse .badParam index := by
  have checked : (checkFields inRange value).bind Except.ok = checkFields inRange value := by
    cases checkFields inRange value <;> rfl
  rw [← checked]
  exact checkFields_bind_refused first nonzero (absurd rfl)

theorem below_eq_false {bound : Nat} {b : Byte} : below bound b = false ↔ bound ≤ b.toNat := by simp [below]

theorem isFlag_eq_false {b : Byte} : isFlag b = false ↔ 2 ≤ b.toNat := below_eq_false

theorem or_none_eq_false {b : Byte} : (below 4 b || b == 0xFF) = false ↔ 4 ≤ b.toNat ∧ b ≠ 0xFF := by
  rw [Bool.or_eq_false_iff, below_eq_false, beq_eq_false_iff_ne]

theorem byte_eq_zero_iff {b : Byte} : b = 0 ↔ b.toNat = 0 := by
  rw [← BitVec.toNat_inj]
  rfl

theorem decide_pos_eq_false {b : Byte} : decide (1 ≤ b.toNat) = false ↔ b = 0 := by
  rw [byte_eq_zero_iff, decide_eq_false_iff_not]
  omega

theorem decide_between_eq_false {b : Byte} {top : Nat} :
    decide (1 ≤ b.toNat ∧ b.toNat ≤ top) = false ↔ b = 0 ∨ top + 1 ≤ b.toNat := by
  rw [byte_eq_zero_iff, decide_eq_false_iff_not]
  omega

theorem valueOf_two (a b : Byte) : valueOf [a, b] = a.toNat + 256 * b.toNat := rfl

theorem decide_word_eq_false {a b : Byte} : decide (valueOf [a, b] ≠ 0) = false ↔ a = 0 ∧ b = 0 := by
  rw [byte_eq_zero_iff, byte_eq_zero_iff, decide_eq_false_iff_not, valueOf_two]
  omega

/-- A 16-bit value is above 32767 by the top bit of its high byte alone. -/
theorem decide_hysteresis_eq_false {a b : Byte} : decide (valueOf [a, b] ≤ 32767) = false ↔ 128 ≤ b.toNat := by
  have low := a.isLt
  rw [decide_eq_false_iff_not, valueOf_two]
  omega

theorem valueOf_four (a b c d : Byte) :
    valueOf [a, b, c, d] = a.toNat + 256 * b.toNat + 65536 * c.toNat + 16777216 * d.toNat := by
  simp only [valueOf]
  omega

theorem itemNumbers_eq {item : Byte} (known : item.toNat < 7) :
    itemNumbers item = [1, 16, 4, 4, 8, 1, 1].getD item.toNat 256 := by
  unfold itemNumbers
  generalize item.toNat = code at known ⊢
  interval_cases code <;> rfl

/-- The ranges of a slot's fields, in field order (R194). -/
theorem slotsInRange_getElem? {n : Nat} {fields : List Byte} (whole : fields.length = 4 * n) {j : Nat}
    (inside : j < fields.length) :
    (slotsInRange fields)[j]? = some (below ([8, 2, 4, 4].getD (j % 4) 0) (fields.getD j 0)) := by
  induction n generalizing fields j with
  | zero => omega
  | succ n ih =>
    match fields, j with
    | _ :: _ :: _ :: _ :: rest, j + 4 =>
      simp only [List.length_cons] at whole inside
      have later := ih (fields := rest) (j := j) (by omega) (by omega)
      rw [Nat.add_mod_right]
      exact later
    | _ :: _ :: _ :: _ :: _, 0 => rfl
    | _ :: _ :: _ :: _ :: _, 1 => rfl
    | _ :: _ :: _ :: _ :: _, 2 => rfl
    | _ :: _ :: _ :: _ :: _, 3 => rfl

theorem firstOutOfRange_at {inRange : List Bool} {j : Nat} (fails : inRange[j]? = some false)
    (before : ∀ m < j, inRange[m]? = some true) (index : Nat) : firstOutOfRange index inRange = some (index + j) := by
  induction inRange generalizing j index with
  | nil => cases fails
  | cons b rest ih =>
    cases j with
    | zero =>
      obtain rfl : b = false := Option.some.inj fails
      rfl
    | succ j =>
      obtain rfl : b = true := Option.some.inj (before 0 j.succ_pos)
      have found := ih fails (fun m below => before (m + 1) (Nat.succ_lt_succ below)) (index + 1)
      rw [firstOutOfRange, found, Nat.add_right_comm, Nat.add_assoc]

theorem readConfigureScan_count {n : Byte} {fields : List Byte} (whole : fields.length = 4 * n.toNat)
    (outside : n = 0 ∨ 17 ≤ n.toNat) : readConfigureScan (n :: fields) = refuse .badParam 1 := by
  rw [readConfigureScan, if_pos whole, decide_between_eq_false.mpr outside]
  rfl

/-- Field 1 is the number of slots: the fields of the slots are numbered from 2 (R194). -/
theorem readConfigureScan_field {n : Byte} {fields : List Byte} (whole : fields.length = 4 * n.toNat) {j : Nat}
    (inside : j < fields.length) (few : n.toNat ≤ 16) (outside : [8, 2, 4, 4].getD (j % 4) 0 ≤ (fields.getD j 0).toNat)
    (before : ∀ m < j, (fields.getD m 0).toNat < [8, 2, 4, 4].getD (m % 4) 0) :
    readConfigureScan (n :: fields) = refuse .badParam (byteOf (2 + j)) := by
  have counted : decide (1 ≤ n.toNat ∧ n.toNat ≤ 16) = true := decide_eq_true ⟨by omega, few⟩
  have first : firstOutOfRange 2 (slotsInRange fields) = some (2 + j) := by
    refine firstOutOfRange_at ?_ (fun m earlier => ?_) 2
    · rw [slotsInRange_getElem? whole inside, below_eq_false.mpr outside]
    · rw [slotsInRange_getElem? whole (earlier.trans inside), below, decide_eq_true (before m earlier)]
  rw [readConfigureScan, if_pos whole, counted, checkFields, firstOutOfRange, first]

/-- An OUTSIDE watch whose bounds cross, and a STEP watch whose high is below 0, are refused (R70, R198). -/
theorem checkConsistent_refused {w : Fin 8} {d : WatchDefinition}
    (crossed : (d.kind = .outside ∧ d.high.toInt < d.low.toInt) ∨ (d.kind = .step ∧ d.high.toInt < 0)) :
    checkConsistent w d = refuse .badParam 6 := by
  have inconsistent : isConsistent d = false := by
    unfold isConsistent
    obtain ⟨kind, crossed⟩ | ⟨kind, crossed⟩ := crossed <;> simp [kind, crossed]
  rw [checkConsistent, inconsistent]
  rfl

/-! ## The answer to a refused request (R184 to R187) -/

/-- A verdict that refuses is not checked any further (R185). -/
theorem bind_refuse {α β : Type} {verdict : Verdict α} {status : Status} {detail : Byte}
    (refused : verdict = refuse status detail) (next : α → Verdict β) : verdict.bind next = refuse status detail := by
  rw [refused]
  rfl

section

variable {r : Request} {s u : State} {status : Status} {detail : Byte}

/-- A Restart that is refused restarts nothing (R191). -/
theorem runRestart_refused (refused : readNothing r.payload = refuse status detail) :
    runRestart none r s = refusedWith r status detail s := by
  rw [runRestart, refused]
  exact answerRefused_eq r status detail s

/-- A Stop that is refused delivers no output (R119, R203). -/
theorem runStop_refused (refused : readStop r.payload = refuse status detail) :
    runStop none r s = refusedWith r status detail s := by
  rw [runStop, refused]
  exact answerRefused_eq r status detail s

/-- A request that its command refuses in the state that the event finds. -/
theorem carriedOut_refused {type : Byte} {run : Request → State → State} (finds : FindsRequest r s u)
    (of_type : r.type = type) (refused : run r u = refusedWith r status detail u) :
    (.next (takeEvent (carryOut (ofType type) run) s) : Host.Outcome State Fault Refusal)
      = .next (conclude (refusedWith r status detail u)) := by
  rw [carriedOut finds of_type, refused]

/-- The same for a command that stands for its type but for one payload (log 11). -/
theorem carriedOut_unless_refused {type x : Byte} {run : Request → State → State} (finds : FindsRequest r s u)
    (of_type : r.type = type) (other : r.payload ≠ [x]) (refused : run r u = refusedWith r status detail u) :
    (.next (takeEvent (carryOut (fun r => ofType type r && !(r.payload == [x])) run) s) :
        Host.Outcome State Fault Refusal) = .next (conclude (refusedWith r status detail u)) := by
  have serves : (ofType type r && !(r.payload == [x])) = true := by simp [ofType, of_type, other]
  rw [carryOut_finds r _ run finds serves, refused]

end

/-! ## Identify (R189) -/

/-- Settles O40: the data is fixed, so nothing of the state is read. -/
theorem identifyGivesThePartsCodes : Obligations.IdentifyGivesThePartsCodes := by
  intro r s u finds type payload
  have run : exec .identify s = .next (conclude (runIdentify none r u)) := carriedOut finds type
  have answered : runIdentify none r u = replied r identifyData u := by
    rw [runIdentify, payload]
    exact answer_quiet rfl rfl
  rw [run, answered]
  rfl

/-! ## Convert Once (R95, R100, R204) -/

section

variable {r : Request} {s : State}

/-- The checks of Convert Once in their order: the acquisition and its source, then the round (R204). -/
theorem convertVerdict_eq (payload : r.payload = []) (s : State) :
    (readNothing r.payload).bind (checkConvert s)
      = if s.acquisition = .idle ∨ s.settings.source ≠ .host then refuse .wrongState 0xFF
        else if s.round = .noRound then .ok () else refuse .roundBusy 0xFF := by
  rw [payload]
  show checkConvert s () = _
  by_cases idle : s.acquisition = .idle <;> by_cases host : s.settings.source = .host <;>
    simp [checkConvert, unlessOk, acquiring, idle, host]

/-- A round begins at its first slot, and its start time is the reply (R95, R204). -/
theorem runConvertOnce_begins {k : Fin 16} (accepted : (readNothing r.payload).bind (checkConvert s) = .ok ())
    (first : (convertedStreams s).head? = some k) :
    runConvertOnce none r s = replied r (timeBytes s.clock.timebase)
      { s with round := .inRound s.clock.timebase k (conversionTime k s) } := by
  have begun : beginRound (holdNotices s)
      = holdNotices { s with round := .inRound s.clock.timebase k (conversionTime k s) } := by
    have held : (convertedStreams (holdNotices s)).head? = some k := first
    rw [beginRound, held]
    rfl
  exact answer_quiet accepted (Prod.ext begun rfl)

end

/-- Settles O50: each verdict of the checks in their order, and the round that an accepted one begins. -/
theorem convertOnceBeginsARound : Obligations.ConvertOnceBeginsARound := by
  intro r s u finds type payload
  have run : exec .convertOnce s = .next (conclude (runConvertOnce none r u)) := carriedOut finds type
  have verdict := convertVerdict_eq payload u
  rw [run]
  refine ⟨fun wrong => ?_, fun acquires host busy => ?_, fun k acquires host quiet first => ?_⟩
  · rw [if_pos wrong] at verdict
    rw [runConvertOnce, answer_refuse verdict]
  all_goals rw [if_neg (not_or.mpr ⟨acquires, not_not.mpr host⟩)] at verdict
  · rw [if_neg busy] at verdict
    rw [runConvertOnce, answer_refuse verdict]
  · rw [if_pos quiet] at verdict
    rw [runConvertOnce_begins verdict first]
    rfl

/-! ## The requests of a fixed length (R185) -/

/-- The commands of the requests of a fixed length, each with its type and the length that the type requires. -/
def fixedLengths : List (Instr × Byte × Byte) :=
  [(.identify, 0x01, 0), (.getStatus, 0x02, 0), (.readCounters, 0x03, 1), (.readCountersClear, 0x03, 1),
    (.setTime, 0x04, 6), (.restart, 0x05, 0), (.configureStream, 0x11, 6), (.configureProfile, 0x13, 8),
    (.configureWatch, 0x14, 16), (.configureExternalTrigger, 0x15, 8), (.configureAcquisition, 0x16, 6),
    (.readConfiguration, 0x17, 2), (.startAcquisition, 0x20, 0), (.stopGraceful, 0x21, 1), (.stopImmediate, 0x21, 1),
    (.convertOnce, 0x22, 0), (.forceCapture, 0x23, 1), (.listRecords, 0x30, 0), (.readRecord, 0x31, 4),
    (.cancelReadout, 0x32, 0), (.releaseRecord, 0x33, 2), (.releaseAllSealed, 0x34, 0), (.acknowledgeAlarm, 0x38, 1)]

section

variable {c : Instr} {type : Byte} {r : Request} {s u : State}

theorem exec_wrongLength {required : Byte} (row : (c, type, required) ∈ fixedLengths) (finds : FindsRequest r s u)
    (of_type : r.type = type) (wrong : r.payload.length ≠ required.toNat) :
    exec c s = .next (conclude (refusedWith r .badLength required u)) := by
  have other (x : Byte) (one : required = 1) : r.payload ≠ [x] := fun same => wrong (by rw [same, one]; rfl)
  simp only [fixedLengths, List.mem_cons, List.not_mem_nil, or_false, Prod.mk.injEq] at row
  obtain ⟨rfl, rfl, rfl⟩ | ⟨rfl, rfl, rfl⟩ | ⟨rfl, rfl, rfl⟩ | ⟨rfl, rfl, rfl⟩ | ⟨rfl, rfl, rfl⟩ | ⟨rfl, rfl, rfl⟩
    | ⟨rfl, rfl, rfl⟩ | ⟨rfl, rfl, rfl⟩ | ⟨rfl, rfl, rfl⟩ | ⟨rfl, rfl, rfl⟩ | ⟨rfl, rfl, rfl⟩ | ⟨rfl, rfl, rfl⟩
    | ⟨rfl, rfl, rfl⟩ | ⟨rfl, rfl, rfl⟩ | ⟨rfl, rfl, rfl⟩ | ⟨rfl, rfl, rfl⟩ | ⟨rfl, rfl, rfl⟩ | ⟨rfl, rfl, rfl⟩
    | ⟨rfl, rfl, rfl⟩ | ⟨rfl, rfl, rfl⟩ | ⟨rfl, rfl, rfl⟩ | ⟨rfl, rfl, rfl⟩ | ⟨rfl, rfl, rfl⟩ := row
  · exact carriedOut_refused finds of_type (answer_refuse (readNothing_length _ wrong))
  · exact carriedOut_refused finds of_type (answer_refuse (readNothing_length _ wrong))
  · exact carriedOut_unless_refused finds of_type (other 1 rfl) (answer_refuse (readByte_length _ _ wrong))
  · exact carriedOut_unless_refused finds of_type (other 0 rfl) (answer_refuse (readByte_length _ _ wrong))
  · exact carriedOut_refused finds of_type (answer_refuse (readSetTime_length _ wrong))
  · exact carriedOut_refused finds of_type (runRestart_refused (readNothing_length _ wrong))
  · exact carriedOut_refused finds of_type (answer_refuse (bind_refuse (readConfigureStream_length _ wrong) _))
  · exact carriedOut_refused finds of_type (answer_refuse (bind_refuse (readConfigureProfile_length _ wrong) _))
  · exact carriedOut_refused finds of_type (answer_refuse (bind_refuse (readConfigureWatch_length _ wrong) _))
  · exact carriedOut_refused finds of_type (answer_refuse (bind_refuse (readConfigureExternal_length _ wrong) _))
  · exact carriedOut_refused finds of_type (answer_refuse (bind_refuse (readConfigureAcquisition_length _ wrong) _))
  · exact carriedOut_refused finds of_type (answer_refuse (readReadConfiguration_length _ wrong))
  · exact carriedOut_refused finds of_type (answer_refuse (bind_refuse (readNothing_length _ wrong) _))
  · exact carriedOut_unless_refused finds of_type (other 1 rfl) (runStop_refused (readByte_length _ _ wrong))
  · exact carriedOut_unless_refused finds of_type (other 0 rfl) (runStop_refused (readByte_length _ _ wrong))
  · exact carriedOut_refused finds of_type (answer_refuse (bind_refuse (readNothing_length _ wrong) _))
  · exact carriedOut_refused finds of_type (answer_refuse (bind_refuse (readByte_length _ _ wrong) _))
  · exact carriedOut_refused finds of_type (answer_refuse (readNothing_length _ wrong))
  · exact carriedOut_refused finds of_type (answer_refuse (bind_refuse (readReadRecord_length _ wrong) _))
  · exact carriedOut_refused finds of_type (answer_refuse (bind_refuse (readNothing_length _ wrong) _))
  · exact carriedOut_refused finds of_type (answer_refuse (bind_refuse (readRecordNumber_length _ wrong) _))
  · exact carriedOut_refused finds of_type (answer_refuse (readNothing_length _ wrong))
  · exact carriedOut_refused finds of_type (answer_refuse (bind_refuse (readByte_length _ _ wrong) _))

/-- The commands of the requests whose one byte has a range, each with its type and the bound of the byte. -/
def boundedBytes : List (Instr × Byte × Byte) :=
  [(.readCounters, 0x03, 2), (.readCountersClear, 0x03, 2), (.stopGraceful, 0x21, 2), (.stopImmediate, 0x21, 2),
    (.forceCapture, 0x23, 4)]

theorem exec_byteOutOfRange {bound b : Byte} (row : (c, type, bound) ∈ boundedBytes) (finds : FindsRequest r s u)
    (of_type : r.type = type) (payload : r.payload = [b]) (outside : bound.toNat ≤ b.toNat) :
    exec c s = .next (conclude (refusedWith r .badParam 1 u)) := by
  have refused : readByte bound.toNat r.payload = refuse .badParam 1 := by
    rw [payload, readByte, below_eq_false.mpr outside]
    rfl
  have other (x : Byte) (inside : x.toNat < bound.toNat) : r.payload ≠ [x] := by
    rw [payload]
    rintro ⟨rfl⟩
    omega
  simp only [boundedBytes, List.mem_cons, List.not_mem_nil, or_false, Prod.mk.injEq] at row
  obtain ⟨rfl, rfl, rfl⟩ | ⟨rfl, rfl, rfl⟩ | ⟨rfl, rfl, rfl⟩ | ⟨rfl, rfl, rfl⟩ | ⟨rfl, rfl, rfl⟩ := row
  · exact carriedOut_unless_refused finds of_type (other 1 (by decide)) (answer_refuse refused)
  · exact carriedOut_unless_refused finds of_type (other 0 (by decide)) (answer_refuse refused)
  · exact carriedOut_unless_refused finds of_type (other 1 (by decide)) (runStop_refused refused)
  · exact carriedOut_unless_refused finds of_type (other 0 (by decide)) (runStop_refused refused)
  · exact carriedOut_refused finds of_type (answer_refuse (bind_refuse refused _))

end

/-! ## No request in execution (log 11) -/

/-- The commands of the request rows. -/
def requestRows : List Instr :=
  [.identify, .getStatus, .readCounters, .readCountersClear, .setTime, .restart, .configureScan, .configureStream,
    .loadCoefficients, .configureProfile, .configureWatch, .configureExternalTrigger, .configureAcquisition,
    .readConfiguration, .startAcquisition, .stopGraceful, .stopImmediate, .convertOnce, .forceCapture, .listRecords,
    .readRecord, .cancelReadout, .releaseRecord, .releaseAllSealed, .acknowledgeAlarm, .unknownRequest]

/-- With no request in execution a request row changes nothing (log 11). -/
theorem carryOut_nothing {serves : Request → Bool} {run : Request → State → State} {s u : State} (finds : Finds s u)
    (none : ∀ r, u.dispatcher.state ≠ .executing r) : takeEvent (carryOut serves run) s = conclude u := by
  rw [takeEvent_finds _ finds, carryOut]
  split
  · next r executing => exact absurd executing (none r)
  · rfl
  · rfl

/-- Every request row carries out the request in execution, and does nothing else. -/
theorem exec_requestRow {c : Instr} (row : c ∈ requestRows) :
    ∃ serves run, ∀ s, exec c s = .next (takeEvent (carryOut serves run) s) := by
  unfold requestRows at row
  fin_cases row <;> exact ⟨_, _, fun _ => rfl⟩

theorem exec_requestRow_nothing {c : Instr} {s u : State} (row : c ∈ requestRows) (finds : Finds s u)
    (none : ∀ r, u.dispatcher.state ≠ .executing r) : exec c s = .next (conclude u) := by
  obtain ⟨serves, run, taken⟩ := exec_requestRow row
  rw [taken, carryOut_nothing finds none]

/-! ## Every request of the wrong form (R185, R186) -/

/-- Settles O45: each reader refuses its lengths and its fields in their order, and the refusal is the answer. -/
theorem requestsOfTheWrongFormAreRefused : Obligations.RequestsOfTheWrongFormAreRefused := by
  refine ⟨fun r s u finds unknown => ?type, fun c type required r s u row finds of_type wrong => ?length,
    fun r s u finds => ⟨fun type wrong => ?scanLength, fun type wrong => ?coefficientsLength⟩,
    fun r s u _ _ _ _ _ _ index finds type payload first nonzero => ?stream,
    fun c type bound b r s u row finds of_type payload outside => ?oneByte,
    fun r s u b _ _ finds => ⟨fun type payload => ?release, fun type payload => ?read, fun type item payload =>
      ⟨fun outside => ?item, fun outside inside => ?number⟩⟩,
    fun r s u n fields finds type payload whole => ⟨fun outside => ?count, fun j inside few outside before => ?slot⟩,
    fun r s u _ _ _ _ index finds type payload whole first nonzero => ?coefficients,
    fun r s u _ _ _ _ _ _ _ _ index finds type payload first nonzero => ?profile,
    fun r s u _ _ _ kind _ _ _ _ _ _ _ _ _ _ _ _ low high index finds type payload low_eq high_eq first nonzero =>
      ?watch,
    fun r s u _ _ _ _ _ _ _ _ index finds type payload first nonzero => ?external,
    fun r s u _ _ _ _ _ _ period index finds type payload value first nonzero => ?acquisition,
    fun c s u finds none row => ?nothing⟩
  case type =>
    have serves : isUnknown r = true := by
      rw [isUnknown, Bool.not_eq_true']
      exact Bool.eq_false_iff.mpr (mt List.contains_iff_mem.mp unknown)
    have run : exec .unknownRequest s = .next (conclude (runUnknown none r u)) :=
      congrArg Host.Outcome.next (carryOut_finds r _ _ finds serves)
    rw [run, runUnknown, answerRefused_eq]
  case length => exact exec_wrongLength row finds of_type wrong
  case scanLength =>
    exact carriedOut_refused finds type (answer_refuse (bind_refuse (readConfigureScan_length wrong) _))
  case coefficientsLength =>
    exact carriedOut_refused finds type (answer_refuse (bind_refuse (readLoadCoefficients_length wrong) _))
  case stream =>
    refine carriedOut_refused finds type (answer_refuse (bind_refuse ?_ _))
    rw [payload]
    refine checkFields_refused (first.trans ?_) nonzero
    simp only [refusedIndex_cons, refusedIndex_nil, below_eq_false, isFlag_eq_false, or_none_eq_false,
      decide_between_eq_false]
    rfl
  case oneByte => exact exec_byteOutOfRange row finds of_type payload outside
  case release =>
    exact carriedOut_refused finds type (answer_refuse (bind_refuse (by rw [payload]; rfl) _))
  case read =>
    exact carriedOut_refused finds type (answer_refuse (bind_refuse (by rw [payload]; rfl) _))
  case item =>
    refine carriedOut_refused finds type (answer_refuse ?_)
    rw [payload, readReadConfiguration, below_eq_false.mpr outside]
    rfl
  case number =>
    refine carriedOut_refused finds type (answer_refuse ?_)
    rw [payload, readReadConfiguration, below, decide_eq_true inside,
      below_eq_false.mpr (Nat.le_trans (Nat.le_of_eq (itemNumbers_eq inside)) outside)]
    rfl
  case count =>
    exact carriedOut_refused finds type
      (answer_refuse (bind_refuse (by rw [payload]; exact readConfigureScan_count whole outside) _))
  case slot =>
    exact carriedOut_refused finds type
      (answer_refuse (bind_refuse (by rw [payload]; exact readConfigureScan_field whole inside few outside before) _))
  case coefficients =>
    refine carriedOut_refused finds type (answer_refuse (bind_refuse ?_ _))
    rw [payload, readLoadCoefficients, if_pos whole]
    refine checkFields_refused (first.trans ?_) nonzero
    simp only [refusedIndex_cons, refusedIndex_nil, below_eq_false]
    rfl
  case profile =>
    refine carriedOut_refused finds type (answer_refuse (bind_refuse ?_ _))
    rw [payload]
    refine checkFields_refused (first.trans ?_) nonzero
    simp only [refusedIndex_cons, refusedIndex_nil, below_eq_false, isFlag_eq_false, decide_word_eq_false]
    rfl
  case watch =>
    refine carriedOut_refused finds type (answer_refuse (bind_refuse ?_ _))
    rw [payload]
    refine checkFields_bind_refused
      (last := if (kind = 2 ∧ high.toInt < low.toInt) ∨ (kind = 3 ∧ high.toInt < 0) then 6 else 0)
      (first.trans ?_) nonzero fun crossed => ?_
    · simp only [refusedIndex_cons, refusedIndex_nil, below_eq_false, isFlag_eq_false, isOptionalProfile,
        or_none_eq_false, decide_hysteresis_eq_false, decide_pos_eq_false]
      rfl
    · have holds : (kind = 2 ∧ high.toInt < low.toInt) ∨ (kind = 3 ∧ high.toInt < 0) := by
        by_contra fails
        exact crossed (if_neg fails)
      rw [if_pos holds]
      subst low_eq high_eq
      obtain ⟨rfl, inverted⟩ | ⟨rfl, negative⟩ := holds
      · exact checkConsistent_refused (.inl ⟨rfl, inverted⟩)
      · exact checkConsistent_refused (.inr ⟨rfl, negative⟩)
  case external =>
    refine carriedOut_refused finds type (answer_refuse (bind_refuse ?_ _))
    rw [payload]
    refine checkFields_refused (first.trans ?_) nonzero
    simp only [refusedIndex_cons, refusedIndex_nil, isFlag_eq_false, isOptionalProfile, or_none_eq_false, valueOf_four,
      decide_eq_false_iff_not, Nat.not_le]
    rfl
  case acquisition =>
    refine carriedOut_refused finds type (answer_refuse (bind_refuse ?_ _))
    rw [payload]
    refine checkFields_refused (first.trans ?_) nonzero
    simp only [refusedIndex_cons, refusedIndex_nil, below_eq_false, isFlag_eq_false, valueOf_four, ← value,
      decide_eq_false_iff_not, not_and_or, Nat.not_le]
    rfl
  case nothing => exact exec_requestRow_nothing row finds none

end Sys2Proof.Machine
end

section
/-! PROOFS. The step as a whole: the command at the front of the queue, the form of every command's answer, and a part
held in reset (R221). -/

namespace Sys2Proof.Machine

/-! ## The form of a command's answer -/

/-- A command's answer is an event taken, after the due steps or as one of them (log 1). -/
def IsTaken (c : Instr) : Prop :=
  (∃ event : State → State, ∀ s, exec c s = .next (takeEvent event s))
  ∨ ∃ event : State → State, ∀ s, exec c s = .next (takeDueStep event s)

theorem isTaken_event {c : Instr} (event : State → State) (taken : ∀ s, exec c s = .next (takeEvent event s)) :
    IsTaken c := .inl ⟨event, taken⟩

theorem isTaken_dueStep {c : Instr} (event : State → State) (taken : ∀ s, exec c s = .next (takeDueStep event s)) :
    IsTaken c := .inr ⟨event, taken⟩

theorem isTaken_requestRow {c : Instr} (row : c ∈ requestRows) : IsTaken c := by
  obtain ⟨serves, run, taken⟩ := exec_requestRow row
  exact isTaken_event (carryOut serves run) taken

/-- Every command but the two that can end a reset is an event taken (R221). -/
theorem isTaken_of_ne {c : Instr} (notPower : ∀ pins, c ≠ .powerOnReset pins) (notPinEnd : ∀ pins, c ≠ .pinResetEnd pins) :
    IsTaken c := by
  cases c with
  | powerOnReset pins => exact absurd rfl (notPower pins)
  | pinResetEnd pins => exact absurd rfl (notPinEnd pins)
  | pinReset => exact isTaken_event takePinReset fun _ => rfl
  | lineBreak taken => exact isTaken_event (takeBreak taken) fun _ => rfl
  | lineBreakEnd => exact isTaken_event clearBreakMark fun _ => rfl
  | rxCharacter c => exact isTaken_event (receiveCharacter c) fun _ => rfl
  | interCharacterTimeout => exact isTaken_event receiveTimeout fun _ => rfl
  | txCharacterBoundary pins => exact isTaken_event (takeBoundary pins) fun _ => rfl
  | pacerExpiry => exact isTaken_event expirePacer fun _ => rfl
  | convInEdge edge => exact isTaken_event (takeConvIn edge) fun _ => rfl
  | conversionComplete level => exact isTaken_event (takeConversion level) fun _ => rfl
  | decimationOutput k => exact isTaken_event (takeOutput k) fun _ => rfl
  | postCountReached k => exact isTaken_dueStep (reachPostCount k) fun _ => rfl
  | watchFire w => exact isTaken_dueStep (takeWatchFire w) fun _ => rfl
  | watchHoldoffEnd w => exact isTaken_dueStep (takeHoldoffEnd w) fun _ => rfl
  | trigInEdge edge => exact isTaken_event (takeTrigIn edge) fun _ => rfl
  | externalHoldoffExpiry => exact isTaken_event expireExternalHoldoff fun _ => rfl
  | trigOutPulseEnd => exact isTaken_event endTrigOutPulse fun _ => rfl
  | trigger position => exact isTaken_event (takeTriggerAt position) fun _ => rfl
  | alarmRequest position => exact isTaken_event (takeAlarmRequestAt position) fun _ => rfl
  | acknowledgementTimerExpiry id => exact isTaken_event (takeAlarmExpiry id) fun _ => rfl
  | _ => exact isTaken_requestRow (by decide)

theorem isTaken_answers {c : Instr} (taken : IsTaken c) (s : State) : ∃ t : State, exec c s = .next t := by
  obtain ⟨event, taken⟩ | ⟨event, taken⟩ := taken
  · exact ⟨takeEvent event s, taken s⟩
  · exact ⟨takeDueStep event s, taken s⟩

/-- No command ends in a fault or a refusal. -/
theorem exec_answers (c : Instr) (s : State) : ∃ t : State, exec c s = .next t := by
  by_cases power : ∃ pins, c = .powerOnReset pins
  · obtain ⟨pins, rfl⟩ := power
    exact ⟨conclude (endReset .power pins s), rfl⟩
  by_cases pinEnd : ∃ pins, c = .pinResetEnd pins
  · obtain ⟨pins, rfl⟩ := pinEnd
    by_cases held : s.resetting.held
    · exact ⟨conclude (endReset .pin pins s), if_pos held⟩
    · exact ⟨takeEvent raiseResetPin s, if_neg held⟩
  exact isTaken_answers (isTaken_of_ne (not_exists.mp power) (not_exists.mp pinEnd)) s

/-! ## A part held in reset (R221) -/

section
variable {s : State} (held : s.resetting.held = true)
include held

theorem takeDueStep_held (event : State → State) : takeDueStep event s = s := if_pos held

theorem passMicrosecond_held : passMicrosecond s = s := if_pos held

theorem exec_held {c : Instr} (taken : IsTaken c) : exec c s = .next s := by
  obtain ⟨event, taken⟩ | ⟨event, taken⟩ := taken
  · rw [taken, takeEvent_held event held]
  · rw [taken, takeDueStep_held held]

end

/-! ## The obligations -/

/-- Settles O3: a command that cannot end a reset is an event taken, which a held part ignores. -/
theorem commandsAnswerAndAHeldPartTakesNone : Obligations.CommandsAnswerAndAHeldPartTakesNone := by
  refine ⟨exec_answers, fun c s held notPower notPinEnd => ⟨?command, ?microsecond⟩⟩
  case command => exact exec_held held (isTaken_of_ne notPower notPinEnd)
  case microsecond => exact congrArg Host.Outcome.next (passMicrosecond_held (s := { s with pending := [] }) held)

/-- Settles O1: it is the step's own equation for a queue that holds a command. -/
theorem stepTakesTheFrontCommand : Obligations.StepTakesTheFrontCommand := fun _ _ _ => rfl

end Sys2Proof.Machine
end
